-- ==== Sys2Proof/Word.lean ====
section
/-! DEFINITION. The word types of the hardware (00_scope.md rule R6: unsigned bit vectors of 8 and 16 bits). -/

namespace Sys2Proof

/-- An 8-bit value (00_scope.md rule R6). -/
abbrev Byte := BitVec 8

/-- A 16-bit value: a register pair, an address, an immediate (00_scope.md rule R6). -/
abbrev Word := BitVec 16

end Sys2Proof
end

