-- ==== Sys2Proof/Config.lean ====
section
/-! DEFINITION. What the machine's environment fixes: the defaults of the named parameters (00_scope.md rule R4) and
the free values of the open configuration, the behaviour of the registered peripheral handlers
(20_memory.md rules R62 and R65). -/

namespace Sys2Proof

/-- What one invocation of a handler does (20_memory.md rules R62, R65): a finite course of nested bus accesses,
each later step of which may depend on the bytes the nested reads gave, and at the end the byte it returns
(a `write` invocation's byte is ignored). -/
inductive HandlerRun where
  /-- The handler returns this byte. -/
  | done (result : Byte)
  /-- A nested read of the bus; the handler goes on with the byte read. -/
  | read (addr : Word) (next : Byte → HandlerRun)
  /-- A nested write of the bus. -/
  | write (addr : Word) (value : Byte) (next : HandlerRun)
  deriving Inhabited

/-- FREE VALUE (log entry 6): the course of the invocation number `draw` of `read(addr)` of handler `handler`.
The spec leaves what a handler returns and does to the environment (20_memory.md rule R65, choice (b)). -/
opaque Config.handlerRead (handler : Nat) (addr : Word) (draw : Nat) : HandlerRun

/-- FREE VALUE (log entry 6): the course of the invocation number `draw` of `write(addr, value)` of handler
`handler` (20_memory.md rule R65, choice (b)). -/
opaque Config.handlerWrite (handler : Nat) (addr : Word) (value : Byte) (draw : Nat) : HandlerRun

/-- The default of the parameter FILL (00_scope.md rule R4, the spec's decision D1; log entry 4). -/
def Config.fillDefault : Byte := 0xFF

/-- The default of the parameter HC16_MASK (00_scope.md rule R4, the spec's decision D3; log entry 5). -/
def Config.hc16MaskDefault : Word := 0x00FF

/-- The cartridge type of a session constructed with every parameter empty (95_test_vectors.md vector Z1,
section 0; log entry 1). -/
def Config.cartTypeDefault : Byte := 0x00

end Sys2Proof
end

