-- ==== Sys2Proof/Syntax.lean ====
section
/-! DEFINITION. The instructions: one constructor of `Instr` per row of spec/opcode_table.json (30_encoding.md rules
R106, R107), with the operand bytes the row's format gives it (rules R101, R103), and the operand fields of rule
R102. `Form` is the same instruction read by its fields, as the by-field table of rule R106 reads it. -/

namespace Sys2Proof

/-- The seven plain 8-bit registers an instruction's 3-bit field selects (30_encoding.md rule R102). -/
inductive Reg8 where
  | b | c | d | e | h | l | a
  deriving DecidableEq, Repr

/-- What the 3-bit field `r` selects: a register, or, for the value 6, the byte at `HL` (30_encoding.md rule R102). -/
inductive Opnd8 where
  | reg (r : Reg8)
  | memHl
  deriving DecidableEq, Repr

/-- The operand of an 8-bit arithmetic or logic instruction (42_alu8.md section 2): register or `(HL)`, or `d8`. -/
inductive AluSrc where
  | opnd (o : Opnd8)
  | imm (d8 : Byte)
  deriving DecidableEq, Repr

/-- The pairs of the 2-bit field `rr` (30_encoding.md rule R102). -/
inductive Pair where
  | bc | de | hl | sp
  deriving DecidableEq, Repr

/-- The pairs of the 2-bit field `qq` of `PUSH` and `POP` (30_encoding.md rule R102). -/
inductive StackPair where
  | bc | de | hl | af
  deriving DecidableEq, Repr

/-- The pointer operand of the loads of `A` through a pair: `(BC)`, `(DE)`, `(HL+)`, `(HL-)` (30_encoding.md rule R103). -/
inductive Ptr where
  | bc | de | hlInc | hlDec
  deriving DecidableEq, Repr

/-- The conditions of the 2-bit field `cc` (30_encoding.md rule R102). -/
inductive Cond where
  | nz | z | nc | c
  deriving DecidableEq, Repr

/-- The operations of the 3-bit field `alu` (30_encoding.md rule R102). -/
inductive AluOp where
  | add | adc | sub | sbc | and | xor | or | cp
  deriving DecidableEq, Repr

/-- The four rotates of `A` in the primary table (44_rotate_shift_bit.md rules R200 to R203). -/
inductive RotOp where
  | rlc | rrc | rl | rr
  deriving DecidableEq, Repr

/-- The eight rotates and shifts of the secondary table, in the order of `op2[5:3]` (30_encoding.md rule R107). -/
inductive ShiftOp where
  | rlc | rrc | rl | rr | sla | sra | swap | srl
  deriving DecidableEq, Repr

/-- The instructions: one constructor per row of spec/opcode_table.json, named after the row, the rows with
operand bytes first, each part in the order of the opcode bytes; the escape row and the eleven unassigned rows are constructors too (30_encoding.md rules R104, R105). -/
inductive Instr where
  | ldBcD16 (d16 : Word)
  | ldBD8 (d8 : Byte)
  | ldMemA16Sp (a16 : Word)
  | ldCD8 (d8 : Byte)
  | stop (d8 : Byte)
  | ldDeD16 (d16 : Word)
  | ldDD8 (d8 : Byte)
  | jrR8 (r8 : Byte)
  | ldED8 (d8 : Byte)
  | jrNzR8 (r8 : Byte)
  | ldHlD16 (d16 : Word)
  | ldHD8 (d8 : Byte)
  | jrZR8 (r8 : Byte)
  | ldLD8 (d8 : Byte)
  | jrNcR8 (r8 : Byte)
  | ldSpD16 (d16 : Word)
  | ldMemHlD8 (d8 : Byte)
  | jrCR8 (r8 : Byte)
  | ldAD8 (d8 : Byte)
  | jpNzA16 (a16 : Word)
  | jpA16 (a16 : Word)
  | callNzA16 (a16 : Word)
  | addAD8 (d8 : Byte)
  | jpZA16 (a16 : Word)
  | callZA16 (a16 : Word)
  | callA16 (a16 : Word)
  | adcAD8 (d8 : Byte)
  | jpNcA16 (a16 : Word)
  | callNcA16 (a16 : Word)
  | subD8 (d8 : Byte)
  | jpCA16 (a16 : Word)
  | callCA16 (a16 : Word)
  | sbcAD8 (d8 : Byte)
  | ldhMemA8A (a8 : Byte)
  | andD8 (d8 : Byte)
  | addSpR8 (r8 : Byte)
  | ldMemA16A (a16 : Word)
  | xorD8 (d8 : Byte)
  | ldhAMemA8 (a8 : Byte)
  | orD8 (d8 : Byte)
  | ldHlSpR8 (r8 : Byte)
  | ldAMemA16 (a16 : Word)
  | cpD8 (d8 : Byte)
  | nop
  | ldMemBcA
  | incBc
  | incB
  | decB
  | rlca
  | addHlBc
  | ldAMemBc
  | decBc
  | incC
  | decC
  | rrca
  | ldMemDeA
  | incDe
  | incD
  | decD
  | rla
  | addHlDe
  | ldAMemDe
  | decDe
  | incE
  | decE
  | rra
  | ldMemHlIncA
  | incHl
  | incH
  | decH
  | daa
  | addHlHl
  | ldAMemHlInc
  | decHl
  | incL
  | decL
  | cplA
  | ldMemHlDecA
  | incSp
  | incMemHl
  | decMemHl
  | scf
  | addHlSp
  | ldAMemHlDec
  | decSp
  | incA
  | decA
  | ccf
  | ldBB
  | ldBC
  | ldBD
  | ldBE
  | ldBH
  | ldBL
  | ldBMemHl
  | ldBA
  | ldCB
  | ldCC
  | ldCD
  | ldCE
  | ldCH
  | ldCL
  | ldCMemHl
  | ldCA
  | ldDB
  | ldDC
  | ldDD
  | ldDE
  | ldDH
  | ldDL
  | ldDMemHl
  | ldDA
  | ldEB
  | ldEC
  | ldED
  | ldEE
  | ldEH
  | ldEL
  | ldEMemHl
  | ldEA
  | ldHB
  | ldHC
  | ldHD
  | ldHE
  | ldHH
  | ldHL
  | ldHMemHl
  | ldHA
  | ldLB
  | ldLC
  | ldLD
  | ldLE
  | ldLH
  | ldLL
  | ldLMemHl
  | ldLA
  | ldMemHlB
  | ldMemHlC
  | ldMemHlD
  | ldMemHlE
  | ldMemHlH
  | ldMemHlL
  | halt
  | ldMemHlA
  | ldAB
  | ldAC
  | ldAD
  | ldAE
  | ldAH
  | ldAL
  | ldAMemHl
  | ldAA
  | addAB
  | addAC
  | addAD
  | addAE
  | addAH
  | addAL
  | addAMemHl
  | addAA
  | adcAB
  | adcAC
  | adcAD
  | adcAE
  | adcAH
  | adcAL
  | adcAMemHl
  | adcAA
  | subB
  | subC
  | subD
  | subE
  | subH
  | subL
  | subMemHl
  | subA
  | sbcAB
  | sbcAC
  | sbcAD
  | sbcAE
  | sbcAH
  | sbcAL
  | sbcAMemHl
  | sbcAA
  | andB
  | andC
  | andD
  | andE
  | andH
  | andL
  | andMemHl
  | andA
  | xorB
  | xorC
  | xorD
  | xorE
  | xorH
  | xorL
  | xorMemHl
  | xorA
  | orB
  | orC
  | orD
  | orE
  | orH
  | orL
  | orMemHl
  | orA
  | cpB
  | cpC
  | cpD
  | cpE
  | cpH
  | cpL
  | cpMemHl
  | cpA
  | retNz
  | popBc
  | pushBc
  | rst00
  | retZ
  | ret
  | prefixCb
  | rst08
  | retNc
  | popDe
  | illegalD3
  | pushDe
  | rst10
  | retC
  | reti
  | illegalDB
  | illegalDD
  | rst18
  | popHl
  | ldMemCA
  | illegalE3
  | illegalE4
  | pushHl
  | rst20
  | jpHl
  | illegalEB
  | illegalEC
  | illegalED
  | rst28
  | popAf
  | ldAMemC
  | di
  | illegalF4
  | pushAf
  | rst30
  | ldSpHl
  | ei
  | illegalFC
  | illegalFD
  | rst38
  | cbRlcB
  | cbRlcC
  | cbRlcD
  | cbRlcE
  | cbRlcH
  | cbRlcL
  | cbRlcMemHl
  | cbRlcA
  | cbRrcB
  | cbRrcC
  | cbRrcD
  | cbRrcE
  | cbRrcH
  | cbRrcL
  | cbRrcMemHl
  | cbRrcA
  | cbRlB
  | cbRlC
  | cbRlD
  | cbRlE
  | cbRlH
  | cbRlL
  | cbRlMemHl
  | cbRlA
  | cbRrB
  | cbRrC
  | cbRrD
  | cbRrE
  | cbRrH
  | cbRrL
  | cbRrMemHl
  | cbRrA
  | cbSlaB
  | cbSlaC
  | cbSlaD
  | cbSlaE
  | cbSlaH
  | cbSlaL
  | cbSlaMemHl
  | cbSlaA
  | cbSraB
  | cbSraC
  | cbSraD
  | cbSraE
  | cbSraH
  | cbSraL
  | cbSraMemHl
  | cbSraA
  | cbSwapB
  | cbSwapC
  | cbSwapD
  | cbSwapE
  | cbSwapH
  | cbSwapL
  | cbSwapMemHl
  | cbSwapA
  | cbSrlB
  | cbSrlC
  | cbSrlD
  | cbSrlE
  | cbSrlH
  | cbSrlL
  | cbSrlMemHl
  | cbSrlA
  | cbBit0B
  | cbBit0C
  | cbBit0D
  | cbBit0E
  | cbBit0H
  | cbBit0L
  | cbBit0MemHl
  | cbBit0A
  | cbBit1B
  | cbBit1C
  | cbBit1D
  | cbBit1E
  | cbBit1H
  | cbBit1L
  | cbBit1MemHl
  | cbBit1A
  | cbBit2B
  | cbBit2C
  | cbBit2D
  | cbBit2E
  | cbBit2H
  | cbBit2L
  | cbBit2MemHl
  | cbBit2A
  | cbBit3B
  | cbBit3C
  | cbBit3D
  | cbBit3E
  | cbBit3H
  | cbBit3L
  | cbBit3MemHl
  | cbBit3A
  | cbBit4B
  | cbBit4C
  | cbBit4D
  | cbBit4E
  | cbBit4H
  | cbBit4L
  | cbBit4MemHl
  | cbBit4A
  | cbBit5B
  | cbBit5C
  | cbBit5D
  | cbBit5E
  | cbBit5H
  | cbBit5L
  | cbBit5MemHl
  | cbBit5A
  | cbBit6B
  | cbBit6C
  | cbBit6D
  | cbBit6E
  | cbBit6H
  | cbBit6L
  | cbBit6MemHl
  | cbBit6A
  | cbBit7B
  | cbBit7C
  | cbBit7D
  | cbBit7E
  | cbBit7H
  | cbBit7L
  | cbBit7MemHl
  | cbBit7A
  | cbRes0B
  | cbRes0C
  | cbRes0D
  | cbRes0E
  | cbRes0H
  | cbRes0L
  | cbRes0MemHl
  | cbRes0A
  | cbRes1B
  | cbRes1C
  | cbRes1D
  | cbRes1E
  | cbRes1H
  | cbRes1L
  | cbRes1MemHl
  | cbRes1A
  | cbRes2B
  | cbRes2C
  | cbRes2D
  | cbRes2E
  | cbRes2H
  | cbRes2L
  | cbRes2MemHl
  | cbRes2A
  | cbRes3B
  | cbRes3C
  | cbRes3D
  | cbRes3E
  | cbRes3H
  | cbRes3L
  | cbRes3MemHl
  | cbRes3A
  | cbRes4B
  | cbRes4C
  | cbRes4D
  | cbRes4E
  | cbRes4H
  | cbRes4L
  | cbRes4MemHl
  | cbRes4A
  | cbRes5B
  | cbRes5C
  | cbRes5D
  | cbRes5E
  | cbRes5H
  | cbRes5L
  | cbRes5MemHl
  | cbRes5A
  | cbRes6B
  | cbRes6C
  | cbRes6D
  | cbRes6E
  | cbRes6H
  | cbRes6L
  | cbRes6MemHl
  | cbRes6A
  | cbRes7B
  | cbRes7C
  | cbRes7D
  | cbRes7E
  | cbRes7H
  | cbRes7L
  | cbRes7MemHl
  | cbRes7A
  | cbSet0B
  | cbSet0C
  | cbSet0D
  | cbSet0E
  | cbSet0H
  | cbSet0L
  | cbSet0MemHl
  | cbSet0A
  | cbSet1B
  | cbSet1C
  | cbSet1D
  | cbSet1E
  | cbSet1H
  | cbSet1L
  | cbSet1MemHl
  | cbSet1A
  | cbSet2B
  | cbSet2C
  | cbSet2D
  | cbSet2E
  | cbSet2H
  | cbSet2L
  | cbSet2MemHl
  | cbSet2A
  | cbSet3B
  | cbSet3C
  | cbSet3D
  | cbSet3E
  | cbSet3H
  | cbSet3L
  | cbSet3MemHl
  | cbSet3A
  | cbSet4B
  | cbSet4C
  | cbSet4D
  | cbSet4E
  | cbSet4H
  | cbSet4L
  | cbSet4MemHl
  | cbSet4A
  | cbSet5B
  | cbSet5C
  | cbSet5D
  | cbSet5E
  | cbSet5H
  | cbSet5L
  | cbSet5MemHl
  | cbSet5A
  | cbSet6B
  | cbSet6C
  | cbSet6D
  | cbSet6E
  | cbSet6H
  | cbSet6L
  | cbSet6MemHl
  | cbSet6A
  | cbSet7B
  | cbSet7C
  | cbSet7D
  | cbSet7E
  | cbSet7H
  | cbSet7L
  | cbSet7MemHl
  | cbSet7A
  deriving DecidableEq, Repr

/-- An instruction read by its fields (30_encoding.md rules R102, R106, R107): the constructor is the instruction of
the by-field table, its arguments are the decoded fields and the immediate. -/
inductive Form where
  | nop | halt | stop (d8 : Byte) | di | ei
  | ldRegReg (d s : Reg8) | ldRegImm (r : Reg8) (d8 : Byte) | ldRegMem (d : Reg8) | ldMemReg (s : Reg8)
  | ldMemImm (d8 : Byte) | ldAPtr (p : Ptr) | ldPtrA (p : Ptr) | ldAAbs (a16 : Word) | ldAbsA (a16 : Word)
  | ldhStore (a8 : Byte) | ldhLoad (a8 : Byte) | ldHighCA | ldAHighC
  | ldPairImm (rr : Pair) (d16 : Word) | ldSpHl | ldAbsSp (a16 : Word) | push (qq : StackPair) | pop (qq : StackPair)
  | ldHlSp (r8 : Byte)
  | alu (op : AluOp) (src : AluSrc) | inc8 (r : Opnd8) | dec8 (r : Opnd8) | daa | cpl | scf | ccf
  | addHl (rr : Pair) | inc16 (rr : Pair) | dec16 (rr : Pair) | addSp (r8 : Byte)
  | rotA (op : RotOp) | shift (op : ShiftOp) (r : Opnd8) | bit (b : BitVec 3) (r : Opnd8)
  | res (b : BitVec 3) (r : Opnd8) | set (b : BitVec 3) (r : Opnd8)
  | jp (a16 : Word) | jpCc (cc : Cond) (a16 : Word) | jr (r8 : Byte) | jrCc (cc : Cond) (r8 : Byte) | jpHl
  | call (a16 : Word) | callCc (cc : Cond) (a16 : Word) | rst (t : BitVec 3) | ret | retCc (cc : Cond) | reti
  | escape | unassigned (op : Byte)
  deriving DecidableEq, Repr

end Sys2Proof
end

