-- ==== Sys2Proof/WellFormed.lean ====
section
/-! DEFINITION. Which constructors of `Instr` are instructions of the machine: all of the table's rows but the escape
row and the eleven unassigned rows. Operands need no check: every operand byte of every row is admitted
(30_encoding.md rules R101, R103; STOP takes any second byte, 46_misc.md rule R252). -/

namespace Sys2Proof

/-- The escape row is "not an instruction by itself" (30_encoding.md rule R104). -/
def Instr.isEscape (i : Instr) : Bool := i == .prefixCb

/-- The eleven opcodes "assigned no instruction" (30_encoding.md rule R105). -/
def Instr.isUnassigned (i : Instr) : Bool :=
  [.illegalD3, .illegalDB, .illegalDD, .illegalE3, .illegalE4, .illegalEB, .illegalEC, .illegalED,
   .illegalF4, .illegalFC, .illegalFD].contains i

/-- A constructor that is an instruction of the machine (30_encoding.md rules R104, R105). -/
def Instr.wellFormed (i : Instr) : Bool := !i.isEscape && !i.isUnassigned

end Sys2Proof
end

