-- ==== Sys2Proof/Decode.lean ====
section
/-! DEFINITION. Decoding and encoding (30_encoding.md rules R101 to R107): the two 256-entry tables of the source, in
the order of the grid of rule R106, the decoder over them, the encoder, and an instruction read by its fields. -/

namespace Sys2Proof

/-! ### Operand fields (30_encoding.md rule R102) -/

/-- The 3-bit field value of a register (30_encoding.md rule R102). -/
def Reg8.code : Reg8 → BitVec 3
  | .b => 0 | .c => 1 | .d => 2 | .e => 3 | .h => 4 | .l => 5 | .a => 7

/-- The 3-bit field value of a register or `(HL)` operand (30_encoding.md rule R102). -/
def Opnd8.code : Opnd8 → BitVec 3
  | .reg r => r.code
  | .memHl => 6

/-- The 2-bit field value `rr` (30_encoding.md rule R102). -/
def Pair.code : Pair → BitVec 2
  | .bc => 0 | .de => 1 | .hl => 2 | .sp => 3

/-- The 2-bit field value `qq` (30_encoding.md rule R102). -/
def StackPair.code : StackPair → BitVec 2
  | .bc => 0 | .de => 1 | .hl => 2 | .af => 3

/-- `op[5:4]` of the loads of `A` through a pair (40_load8.md rules R126, R127, R134 to R137). -/
def Ptr.code : Ptr → BitVec 2
  | .bc => 0 | .de => 1 | .hlInc => 2 | .hlDec => 3

/-- The 2-bit field value `cc` (30_encoding.md rule R102). -/
def Cond.code : Cond → BitVec 2
  | .nz => 0 | .z => 1 | .nc => 2 | .c => 3

/-- The 3-bit field value `alu` (30_encoding.md rule R102). -/
def AluOp.code : AluOp → BitVec 3
  | .add => 0 | .adc => 1 | .sub => 2 | .sbc => 3 | .and => 4 | .xor => 5 | .or => 6 | .cp => 7

/-- `op[4:3]` of the primary rotates of `A` (44_rotate_shift_bit.md rules R200 to R203). -/
def RotOp.code : RotOp → BitVec 2
  | .rlc => 0 | .rrc => 1 | .rl => 2 | .rr => 3

/-- The group `g` of a secondary rotate or shift (44_rotate_shift_bit.md section 2). -/
def ShiftOp.code : ShiftOp → BitVec 3
  | .rlc => 0 | .rrc => 1 | .rl => 2 | .rr => 3 | .sla => 4 | .sra => 5 | .swap => 6 | .srl => 7

/-- The operand of a 3-bit field (30_encoding.md rule R102). -/
def Opnd8.ofCode (r : BitVec 3) : Opnd8 :=
  [.reg .b, .reg .c, .reg .d, .reg .e, .reg .h, .reg .l, .memHl, .reg .a].getD r.toNat .memHl

/-- The rotate or shift of the group `g = op2[5:3]` (30_encoding.md rule R107). -/
def ShiftOp.ofCode (g : BitVec 3) : ShiftOp :=
  [.rlc, .rrc, .rl, .rr, .sla, .sra, .swap, .srl].getD g.toNat .rlc

/-- The pair of a 2-bit field `rr` (30_encoding.md rule R102). -/
def Pair.ofCode (p : BitVec 2) : Pair := [.bc, .de, .hl, .sp].getD p.toNat .sp

/-- The pair of a 2-bit field `qq` (30_encoding.md rule R102). -/
def StackPair.ofCode (p : BitVec 2) : StackPair := [.bc, .de, .hl, .af].getD p.toNat .af

/-- The pointer of `op[5:4]` (40_load8.md rules R126, R127, R134 to R137). -/
def Ptr.ofCode (p : BitVec 2) : Ptr := [.bc, .de, .hlInc, .hlDec].getD p.toNat .hlDec

/-- The condition of a 2-bit field `cc` (30_encoding.md rule R102). -/
def Cond.ofCode (cc : BitVec 2) : Cond := [.nz, .z, .nc, .c].getD cc.toNat .c

/-- The operation of a 3-bit field `alu` (30_encoding.md rule R102). -/
def AluOp.ofCode (y : BitVec 3) : AluOp :=
  [.add, .adc, .sub, .sbc, .and, .xor, .or, .cp].getD y.toNat .cp

/-- The rotate of `op[4:3]` (44_rotate_shift_bit.md rules R200 to R203). -/
def RotOp.ofCode (y : BitVec 2) : RotOp := [.rlc, .rrc, .rl, .rr].getD y.toNat .rr

/-! ### Immediates (30_encoding.md rule R103, 20_memory.md rule R80) -/

/-- `d16`/`a16 = {byte2, byte1}`: byte 1 is the low half. -/
def imm16 (byte1 byte2 : Byte) : Word := byte2 ++ byte1

/-- Bits 7..0 of a 16-bit value. -/
def lowByte (v : Word) : Byte := v.extractLsb' 0 8

/-- Bits 15..8 of a 16-bit value. -/
def highByte (v : Word) : Byte := v.extractLsb' 8 8

/-! ### The tables -/

/-- An entry of the primary table (30_encoding.md rules R101, R104): a one-byte instruction, an instruction with one
or two operand bytes, or the escape to the secondary table. -/
inductive Row where
  | one (i : Instr)
  | imm8 (f : Byte → Instr)
  | imm16 (f : Word → Instr)
  | escape

/-- Row 0x00 of the primary table (30_encoding.md rule R106). -/
def primary0 : List Row :=
  [.one .nop, .imm16 .ldBcD16, .one .ldMemBcA, .one .incBc,
   .one .incB, .one .decB, .imm8 .ldBD8, .one .rlca,
   .imm16 .ldMemA16Sp, .one .addHlBc, .one .ldAMemBc, .one .decBc,
   .one .incC, .one .decC, .imm8 .ldCD8, .one .rrca]

/-- Row 0x100 of the primary table (30_encoding.md rule R106). -/
def primary1 : List Row :=
  [.imm8 .stop, .imm16 .ldDeD16, .one .ldMemDeA, .one .incDe,
   .one .incD, .one .decD, .imm8 .ldDD8, .one .rla,
   .imm8 .jrR8, .one .addHlDe, .one .ldAMemDe, .one .decDe,
   .one .incE, .one .decE, .imm8 .ldED8, .one .rra]

/-- Row 0x200 of the primary table (30_encoding.md rule R106). -/
def primary2 : List Row :=
  [.imm8 .jrNzR8, .imm16 .ldHlD16, .one .ldMemHlIncA, .one .incHl,
   .one .incH, .one .decH, .imm8 .ldHD8, .one .daa,
   .imm8 .jrZR8, .one .addHlHl, .one .ldAMemHlInc, .one .decHl,
   .one .incL, .one .decL, .imm8 .ldLD8, .one .cplA]

/-- Row 0x300 of the primary table (30_encoding.md rule R106). -/
def primary3 : List Row :=
  [.imm8 .jrNcR8, .imm16 .ldSpD16, .one .ldMemHlDecA, .one .incSp,
   .one .incMemHl, .one .decMemHl, .imm8 .ldMemHlD8, .one .scf,
   .imm8 .jrCR8, .one .addHlSp, .one .ldAMemHlDec, .one .decSp,
   .one .incA, .one .decA, .imm8 .ldAD8, .one .ccf]

/-- Row 0x400 of the primary table (30_encoding.md rule R106). -/
def primary4 : List Row :=
  [.one .ldBB, .one .ldBC, .one .ldBD, .one .ldBE,
   .one .ldBH, .one .ldBL, .one .ldBMemHl, .one .ldBA,
   .one .ldCB, .one .ldCC, .one .ldCD, .one .ldCE,
   .one .ldCH, .one .ldCL, .one .ldCMemHl, .one .ldCA]

/-- Row 0x500 of the primary table (30_encoding.md rule R106). -/
def primary5 : List Row :=
  [.one .ldDB, .one .ldDC, .one .ldDD, .one .ldDE,
   .one .ldDH, .one .ldDL, .one .ldDMemHl, .one .ldDA,
   .one .ldEB, .one .ldEC, .one .ldED, .one .ldEE,
   .one .ldEH, .one .ldEL, .one .ldEMemHl, .one .ldEA]

/-- Row 0x600 of the primary table (30_encoding.md rule R106). -/
def primary6 : List Row :=
  [.one .ldHB, .one .ldHC, .one .ldHD, .one .ldHE,
   .one .ldHH, .one .ldHL, .one .ldHMemHl, .one .ldHA,
   .one .ldLB, .one .ldLC, .one .ldLD, .one .ldLE,
   .one .ldLH, .one .ldLL, .one .ldLMemHl, .one .ldLA]

/-- Row 0x700 of the primary table (30_encoding.md rule R106). -/
def primary7 : List Row :=
  [.one .ldMemHlB, .one .ldMemHlC, .one .ldMemHlD, .one .ldMemHlE,
   .one .ldMemHlH, .one .ldMemHlL, .one .halt, .one .ldMemHlA,
   .one .ldAB, .one .ldAC, .one .ldAD, .one .ldAE,
   .one .ldAH, .one .ldAL, .one .ldAMemHl, .one .ldAA]

/-- Row 0x800 of the primary table (30_encoding.md rule R106). -/
def primary8 : List Row :=
  [.one .addAB, .one .addAC, .one .addAD, .one .addAE,
   .one .addAH, .one .addAL, .one .addAMemHl, .one .addAA,
   .one .adcAB, .one .adcAC, .one .adcAD, .one .adcAE,
   .one .adcAH, .one .adcAL, .one .adcAMemHl, .one .adcAA]

/-- Row 0x900 of the primary table (30_encoding.md rule R106). -/
def primary9 : List Row :=
  [.one .subB, .one .subC, .one .subD, .one .subE,
   .one .subH, .one .subL, .one .subMemHl, .one .subA,
   .one .sbcAB, .one .sbcAC, .one .sbcAD, .one .sbcAE,
   .one .sbcAH, .one .sbcAL, .one .sbcAMemHl, .one .sbcAA]

/-- Row 0xA00 of the primary table (30_encoding.md rule R106). -/
def primaryA : List Row :=
  [.one .andB, .one .andC, .one .andD, .one .andE,
   .one .andH, .one .andL, .one .andMemHl, .one .andA,
   .one .xorB, .one .xorC, .one .xorD, .one .xorE,
   .one .xorH, .one .xorL, .one .xorMemHl, .one .xorA]

/-- Row 0xB00 of the primary table (30_encoding.md rule R106). -/
def primaryB : List Row :=
  [.one .orB, .one .orC, .one .orD, .one .orE,
   .one .orH, .one .orL, .one .orMemHl, .one .orA,
   .one .cpB, .one .cpC, .one .cpD, .one .cpE,
   .one .cpH, .one .cpL, .one .cpMemHl, .one .cpA]

/-- Row 0xC00 of the primary table (30_encoding.md rule R106). -/
def primaryC : List Row :=
  [.one .retNz, .one .popBc, .imm16 .jpNzA16, .imm16 .jpA16,
   .imm16 .callNzA16, .one .pushBc, .imm8 .addAD8, .one .rst00,
   .one .retZ, .one .ret, .imm16 .jpZA16, .escape,
   .imm16 .callZA16, .imm16 .callA16, .imm8 .adcAD8, .one .rst08]

/-- Row 0xD00 of the primary table (30_encoding.md rule R106). -/
def primaryD : List Row :=
  [.one .retNc, .one .popDe, .imm16 .jpNcA16, .one .illegalD3,
   .imm16 .callNcA16, .one .pushDe, .imm8 .subD8, .one .rst10,
   .one .retC, .one .reti, .imm16 .jpCA16, .one .illegalDB,
   .imm16 .callCA16, .one .illegalDD, .imm8 .sbcAD8, .one .rst18]

/-- Row 0xE00 of the primary table (30_encoding.md rule R106). -/
def primaryE : List Row :=
  [.imm8 .ldhMemA8A, .one .popHl, .one .ldMemCA, .one .illegalE3,
   .one .illegalE4, .one .pushHl, .imm8 .andD8, .one .rst20,
   .imm8 .addSpR8, .one .jpHl, .imm16 .ldMemA16A, .one .illegalEB,
   .one .illegalEC, .one .illegalED, .imm8 .xorD8, .one .rst28]

/-- Row 0xF00 of the primary table (30_encoding.md rule R106). -/
def primaryF : List Row :=
  [.imm8 .ldhAMemA8, .one .popAf, .one .ldAMemC, .one .di,
   .one .illegalF4, .one .pushAf, .imm8 .orD8, .one .rst30,
   .imm8 .ldHlSpR8, .one .ldSpHl, .imm16 .ldAMemA16, .one .ei,
   .one .illegalFC, .one .illegalFD, .imm8 .cpD8, .one .rst38]

/-- The primary table, indexed by the opcode byte (30_encoding.md rule R106). -/
def primaryTable : List Row :=
  primary0 ++ primary1 ++ primary2 ++ primary3 ++ primary4 ++ primary5 ++ primary6 ++ primary7 ++
  primary8 ++ primary9 ++ primaryA ++ primaryB ++ primaryC ++ primaryD ++ primaryE ++ primaryF

/-- Row 0x00 of the secondary table (30_encoding.md rule R107). -/
def secondary0 : List Instr :=
  [.cbRlcB, .cbRlcC, .cbRlcD, .cbRlcE, .cbRlcH, .cbRlcL, .cbRlcMemHl, .cbRlcA,
   .cbRrcB, .cbRrcC, .cbRrcD, .cbRrcE, .cbRrcH, .cbRrcL, .cbRrcMemHl, .cbRrcA]

/-- Row 0x100 of the secondary table (30_encoding.md rule R107). -/
def secondary1 : List Instr :=
  [.cbRlB, .cbRlC, .cbRlD, .cbRlE, .cbRlH, .cbRlL, .cbRlMemHl, .cbRlA,
   .cbRrB, .cbRrC, .cbRrD, .cbRrE, .cbRrH, .cbRrL, .cbRrMemHl, .cbRrA]

/-- Row 0x200 of the secondary table (30_encoding.md rule R107). -/
def secondary2 : List Instr :=
  [.cbSlaB, .cbSlaC, .cbSlaD, .cbSlaE, .cbSlaH, .cbSlaL, .cbSlaMemHl, .cbSlaA,
   .cbSraB, .cbSraC, .cbSraD, .cbSraE, .cbSraH, .cbSraL, .cbSraMemHl, .cbSraA]

/-- Row 0x300 of the secondary table (30_encoding.md rule R107). -/
def secondary3 : List Instr :=
  [.cbSwapB, .cbSwapC, .cbSwapD, .cbSwapE, .cbSwapH, .cbSwapL, .cbSwapMemHl, .cbSwapA,
   .cbSrlB, .cbSrlC, .cbSrlD, .cbSrlE, .cbSrlH, .cbSrlL, .cbSrlMemHl, .cbSrlA]

/-- Row 0x400 of the secondary table (30_encoding.md rule R107). -/
def secondary4 : List Instr :=
  [.cbBit0B, .cbBit0C, .cbBit0D, .cbBit0E, .cbBit0H, .cbBit0L, .cbBit0MemHl, .cbBit0A,
   .cbBit1B, .cbBit1C, .cbBit1D, .cbBit1E, .cbBit1H, .cbBit1L, .cbBit1MemHl, .cbBit1A]

/-- Row 0x500 of the secondary table (30_encoding.md rule R107). -/
def secondary5 : List Instr :=
  [.cbBit2B, .cbBit2C, .cbBit2D, .cbBit2E, .cbBit2H, .cbBit2L, .cbBit2MemHl, .cbBit2A,
   .cbBit3B, .cbBit3C, .cbBit3D, .cbBit3E, .cbBit3H, .cbBit3L, .cbBit3MemHl, .cbBit3A]

/-- Row 0x600 of the secondary table (30_encoding.md rule R107). -/
def secondary6 : List Instr :=
  [.cbBit4B, .cbBit4C, .cbBit4D, .cbBit4E, .cbBit4H, .cbBit4L, .cbBit4MemHl, .cbBit4A,
   .cbBit5B, .cbBit5C, .cbBit5D, .cbBit5E, .cbBit5H, .cbBit5L, .cbBit5MemHl, .cbBit5A]

/-- Row 0x700 of the secondary table (30_encoding.md rule R107). -/
def secondary7 : List Instr :=
  [.cbBit6B, .cbBit6C, .cbBit6D, .cbBit6E, .cbBit6H, .cbBit6L, .cbBit6MemHl, .cbBit6A,
   .cbBit7B, .cbBit7C, .cbBit7D, .cbBit7E, .cbBit7H, .cbBit7L, .cbBit7MemHl, .cbBit7A]

/-- Row 0x800 of the secondary table (30_encoding.md rule R107). -/
def secondary8 : List Instr :=
  [.cbRes0B, .cbRes0C, .cbRes0D, .cbRes0E, .cbRes0H, .cbRes0L, .cbRes0MemHl, .cbRes0A,
   .cbRes1B, .cbRes1C, .cbRes1D, .cbRes1E, .cbRes1H, .cbRes1L, .cbRes1MemHl, .cbRes1A]

/-- Row 0x900 of the secondary table (30_encoding.md rule R107). -/
def secondary9 : List Instr :=
  [.cbRes2B, .cbRes2C, .cbRes2D, .cbRes2E, .cbRes2H, .cbRes2L, .cbRes2MemHl, .cbRes2A,
   .cbRes3B, .cbRes3C, .cbRes3D, .cbRes3E, .cbRes3H, .cbRes3L, .cbRes3MemHl, .cbRes3A]

/-- Row 0xA00 of the secondary table (30_encoding.md rule R107). -/
def secondaryA : List Instr :=
  [.cbRes4B, .cbRes4C, .cbRes4D, .cbRes4E, .cbRes4H, .cbRes4L, .cbRes4MemHl, .cbRes4A,
   .cbRes5B, .cbRes5C, .cbRes5D, .cbRes5E, .cbRes5H, .cbRes5L, .cbRes5MemHl, .cbRes5A]

/-- Row 0xB00 of the secondary table (30_encoding.md rule R107). -/
def secondaryB : List Instr :=
  [.cbRes6B, .cbRes6C, .cbRes6D, .cbRes6E, .cbRes6H, .cbRes6L, .cbRes6MemHl, .cbRes6A,
   .cbRes7B, .cbRes7C, .cbRes7D, .cbRes7E, .cbRes7H, .cbRes7L, .cbRes7MemHl, .cbRes7A]

/-- Row 0xC00 of the secondary table (30_encoding.md rule R107). -/
def secondaryC : List Instr :=
  [.cbSet0B, .cbSet0C, .cbSet0D, .cbSet0E, .cbSet0H, .cbSet0L, .cbSet0MemHl, .cbSet0A,
   .cbSet1B, .cbSet1C, .cbSet1D, .cbSet1E, .cbSet1H, .cbSet1L, .cbSet1MemHl, .cbSet1A]

/-- Row 0xD00 of the secondary table (30_encoding.md rule R107). -/
def secondaryD : List Instr :=
  [.cbSet2B, .cbSet2C, .cbSet2D, .cbSet2E, .cbSet2H, .cbSet2L, .cbSet2MemHl, .cbSet2A,
   .cbSet3B, .cbSet3C, .cbSet3D, .cbSet3E, .cbSet3H, .cbSet3L, .cbSet3MemHl, .cbSet3A]

/-- Row 0xE00 of the secondary table (30_encoding.md rule R107). -/
def secondaryE : List Instr :=
  [.cbSet4B, .cbSet4C, .cbSet4D, .cbSet4E, .cbSet4H, .cbSet4L, .cbSet4MemHl, .cbSet4A,
   .cbSet5B, .cbSet5C, .cbSet5D, .cbSet5E, .cbSet5H, .cbSet5L, .cbSet5MemHl, .cbSet5A]

/-- Row 0xF00 of the secondary table (30_encoding.md rule R107). -/
def secondaryF : List Instr :=
  [.cbSet6B, .cbSet6C, .cbSet6D, .cbSet6E, .cbSet6H, .cbSet6L, .cbSet6MemHl, .cbSet6A,
   .cbSet7B, .cbSet7C, .cbSet7D, .cbSet7E, .cbSet7H, .cbSet7L, .cbSet7MemHl, .cbSet7A]

/-- The secondary table, indexed by the byte after the escape (30_encoding.md rule R107). -/
def secondaryTable : List Instr :=
  secondary0 ++ secondary1 ++ secondary2 ++ secondary3 ++ secondary4 ++ secondary5 ++ secondary6 ++ secondary7 ++
  secondary8 ++ secondary9 ++ secondaryA ++ secondaryB ++ secondaryC ++ secondaryD ++ secondaryE ++ secondaryF

/-- The primary row an opcode byte selects (30_encoding.md rule R101). -/
def primaryRow (op : Byte) : Row := primaryTable.getD op.toNat .escape

/-- The instruction a secondary opcode byte selects (30_encoding.md rule R104). -/
def secondaryRow (op2 : Byte) : Instr := secondaryTable.getD op2.toNat .prefixCb

/-! ### The decoder -/

/-- Why a byte sequence is not decoded. -/
inductive DecodeReject where
  /-- There is no byte to read an opcode from. -/
  | noBytes
  /-- The bytes end before the operand bytes the row of opcode `op` takes (30_encoding.md rule R101). -/
  | truncated (op : Byte)
  deriving DecidableEq, Repr

/-- The instruction at the head of a byte sequence and the bytes after it (30_encoding.md rules R101, R104). An escape
byte that ends the sequence is the bare escape row, whose second opcode byte is still to be fetched. -/
def decode : List Byte → Except DecodeReject (Instr × List Byte)
  | [] => .error .noBytes
  | op :: rest =>
    match primaryRow op, rest with
    | .one i, rest => .ok (i, rest)
    | .imm8 f, b1 :: rest => .ok (f b1, rest)
    | .imm8 _, [] => .error (.truncated op)
    | .imm16 f, b1 :: b2 :: rest => .ok (f (imm16 b1 b2), rest)
    | .imm16 _, _ => .error (.truncated op)
    | .escape, op2 :: rest => .ok (secondaryRow op2, rest)
    | .escape, [] => .ok (.prefixCb, [])

/-- How many bytes the table gives a row (30_encoding.md rule R101; the escape row has length 1 in the table). -/
def Row.length : Row → Nat
  | .one _ => 1
  | .imm8 _ => 2
  | .imm16 _ => 3
  | .escape => 1

/-- The low `n` bytes of a number, least significant first. -/
def bytesLE : Nat → Nat → List Byte
  | 0, _ => []
  | n + 1, w => BitVec.ofNat 8 w :: bytesLE n (w / 256)

/-- The bytes of an instruction whose table bits are `w` (log entry 9): a secondary row's two bytes stand with the
escape byte in bits 15..8, as rule R106 says its table numbers them ("first byte in the high position"); any other
word has its first byte in bits 7..0. -/
def tableBytes (nbits w : Nat) : List Byte :=
  if nbits = 16 ∧ w / 256 = 0xCB then [0xCB, BitVec.ofNat 8 w] else bytesLE ((nbits + 7) / 8) w

/-- `tableBytes` with zero operand bytes up to the length the table gives the row. -/
def tableBytesPadded (nbits w : Nat) : List Byte :=
  let bs := tableBytes nbits w
  bs ++ List.replicate ((primaryRow (bs.headD 0)).length - bs.length) 0

/-- The instruction the decoder reads from an instruction whose bits are `w`, as spec/opcode_table.json numbers them. -/
def decodeTableWord (nbits w : Nat) : Option Instr :=
  match decode (tableBytesPadded nbits w) with
  | .ok (i, _) => some i
  | .error _ => none

/-! ### The encoder -/

/-- The bytes of an instruction, byte 0 first (30_encoding.md rules R101, R106, R107). -/
def encode : Instr → List Byte
  | .ldBcD16 d16 => [0x01, lowByte d16, highByte d16]
  | .ldBD8 d8 => [0x06, d8]
  | .ldMemA16Sp a16 => [0x08, lowByte a16, highByte a16]
  | .ldCD8 d8 => [0x0E, d8]
  | .stop d8 => [0x10, d8]
  | .ldDeD16 d16 => [0x11, lowByte d16, highByte d16]
  | .ldDD8 d8 => [0x16, d8]
  | .jrR8 r8 => [0x18, r8]
  | .ldED8 d8 => [0x1E, d8]
  | .jrNzR8 r8 => [0x20, r8]
  | .ldHlD16 d16 => [0x21, lowByte d16, highByte d16]
  | .ldHD8 d8 => [0x26, d8]
  | .jrZR8 r8 => [0x28, r8]
  | .ldLD8 d8 => [0x2E, d8]
  | .jrNcR8 r8 => [0x30, r8]
  | .ldSpD16 d16 => [0x31, lowByte d16, highByte d16]
  | .ldMemHlD8 d8 => [0x36, d8]
  | .jrCR8 r8 => [0x38, r8]
  | .ldAD8 d8 => [0x3E, d8]
  | .jpNzA16 a16 => [0xC2, lowByte a16, highByte a16]
  | .jpA16 a16 => [0xC3, lowByte a16, highByte a16]
  | .callNzA16 a16 => [0xC4, lowByte a16, highByte a16]
  | .addAD8 d8 => [0xC6, d8]
  | .jpZA16 a16 => [0xCA, lowByte a16, highByte a16]
  | .callZA16 a16 => [0xCC, lowByte a16, highByte a16]
  | .callA16 a16 => [0xCD, lowByte a16, highByte a16]
  | .adcAD8 d8 => [0xCE, d8]
  | .jpNcA16 a16 => [0xD2, lowByte a16, highByte a16]
  | .callNcA16 a16 => [0xD4, lowByte a16, highByte a16]
  | .subD8 d8 => [0xD6, d8]
  | .jpCA16 a16 => [0xDA, lowByte a16, highByte a16]
  | .callCA16 a16 => [0xDC, lowByte a16, highByte a16]
  | .sbcAD8 d8 => [0xDE, d8]
  | .ldhMemA8A a8 => [0xE0, a8]
  | .andD8 d8 => [0xE6, d8]
  | .addSpR8 r8 => [0xE8, r8]
  | .ldMemA16A a16 => [0xEA, lowByte a16, highByte a16]
  | .xorD8 d8 => [0xEE, d8]
  | .ldhAMemA8 a8 => [0xF0, a8]
  | .orD8 d8 => [0xF6, d8]
  | .ldHlSpR8 r8 => [0xF8, r8]
  | .ldAMemA16 a16 => [0xFA, lowByte a16, highByte a16]
  | .cpD8 d8 => [0xFE, d8]
  | .nop => [0x00]
  | .ldMemBcA => [0x02]
  | .incBc => [0x03]
  | .incB => [0x04]
  | .decB => [0x05]
  | .rlca => [0x07]
  | .addHlBc => [0x09]
  | .ldAMemBc => [0x0A]
  | .decBc => [0x0B]
  | .incC => [0x0C]
  | .decC => [0x0D]
  | .rrca => [0x0F]
  | .ldMemDeA => [0x12]
  | .incDe => [0x13]
  | .incD => [0x14]
  | .decD => [0x15]
  | .rla => [0x17]
  | .addHlDe => [0x19]
  | .ldAMemDe => [0x1A]
  | .decDe => [0x1B]
  | .incE => [0x1C]
  | .decE => [0x1D]
  | .rra => [0x1F]
  | .ldMemHlIncA => [0x22]
  | .incHl => [0x23]
  | .incH => [0x24]
  | .decH => [0x25]
  | .daa => [0x27]
  | .addHlHl => [0x29]
  | .ldAMemHlInc => [0x2A]
  | .decHl => [0x2B]
  | .incL => [0x2C]
  | .decL => [0x2D]
  | .cplA => [0x2F]
  | .ldMemHlDecA => [0x32]
  | .incSp => [0x33]
  | .incMemHl => [0x34]
  | .decMemHl => [0x35]
  | .scf => [0x37]
  | .addHlSp => [0x39]
  | .ldAMemHlDec => [0x3A]
  | .decSp => [0x3B]
  | .incA => [0x3C]
  | .decA => [0x3D]
  | .ccf => [0x3F]
  | .ldBB => [0x40]
  | .ldBC => [0x41]
  | .ldBD => [0x42]
  | .ldBE => [0x43]
  | .ldBH => [0x44]
  | .ldBL => [0x45]
  | .ldBMemHl => [0x46]
  | .ldBA => [0x47]
  | .ldCB => [0x48]
  | .ldCC => [0x49]
  | .ldCD => [0x4A]
  | .ldCE => [0x4B]
  | .ldCH => [0x4C]
  | .ldCL => [0x4D]
  | .ldCMemHl => [0x4E]
  | .ldCA => [0x4F]
  | .ldDB => [0x50]
  | .ldDC => [0x51]
  | .ldDD => [0x52]
  | .ldDE => [0x53]
  | .ldDH => [0x54]
  | .ldDL => [0x55]
  | .ldDMemHl => [0x56]
  | .ldDA => [0x57]
  | .ldEB => [0x58]
  | .ldEC => [0x59]
  | .ldED => [0x5A]
  | .ldEE => [0x5B]
  | .ldEH => [0x5C]
  | .ldEL => [0x5D]
  | .ldEMemHl => [0x5E]
  | .ldEA => [0x5F]
  | .ldHB => [0x60]
  | .ldHC => [0x61]
  | .ldHD => [0x62]
  | .ldHE => [0x63]
  | .ldHH => [0x64]
  | .ldHL => [0x65]
  | .ldHMemHl => [0x66]
  | .ldHA => [0x67]
  | .ldLB => [0x68]
  | .ldLC => [0x69]
  | .ldLD => [0x6A]
  | .ldLE => [0x6B]
  | .ldLH => [0x6C]
  | .ldLL => [0x6D]
  | .ldLMemHl => [0x6E]
  | .ldLA => [0x6F]
  | .ldMemHlB => [0x70]
  | .ldMemHlC => [0x71]
  | .ldMemHlD => [0x72]
  | .ldMemHlE => [0x73]
  | .ldMemHlH => [0x74]
  | .ldMemHlL => [0x75]
  | .halt => [0x76]
  | .ldMemHlA => [0x77]
  | .ldAB => [0x78]
  | .ldAC => [0x79]
  | .ldAD => [0x7A]
  | .ldAE => [0x7B]
  | .ldAH => [0x7C]
  | .ldAL => [0x7D]
  | .ldAMemHl => [0x7E]
  | .ldAA => [0x7F]
  | .addAB => [0x80]
  | .addAC => [0x81]
  | .addAD => [0x82]
  | .addAE => [0x83]
  | .addAH => [0x84]
  | .addAL => [0x85]
  | .addAMemHl => [0x86]
  | .addAA => [0x87]
  | .adcAB => [0x88]
  | .adcAC => [0x89]
  | .adcAD => [0x8A]
  | .adcAE => [0x8B]
  | .adcAH => [0x8C]
  | .adcAL => [0x8D]
  | .adcAMemHl => [0x8E]
  | .adcAA => [0x8F]
  | .subB => [0x90]
  | .subC => [0x91]
  | .subD => [0x92]
  | .subE => [0x93]
  | .subH => [0x94]
  | .subL => [0x95]
  | .subMemHl => [0x96]
  | .subA => [0x97]
  | .sbcAB => [0x98]
  | .sbcAC => [0x99]
  | .sbcAD => [0x9A]
  | .sbcAE => [0x9B]
  | .sbcAH => [0x9C]
  | .sbcAL => [0x9D]
  | .sbcAMemHl => [0x9E]
  | .sbcAA => [0x9F]
  | .andB => [0xA0]
  | .andC => [0xA1]
  | .andD => [0xA2]
  | .andE => [0xA3]
  | .andH => [0xA4]
  | .andL => [0xA5]
  | .andMemHl => [0xA6]
  | .andA => [0xA7]
  | .xorB => [0xA8]
  | .xorC => [0xA9]
  | .xorD => [0xAA]
  | .xorE => [0xAB]
  | .xorH => [0xAC]
  | .xorL => [0xAD]
  | .xorMemHl => [0xAE]
  | .xorA => [0xAF]
  | .orB => [0xB0]
  | .orC => [0xB1]
  | .orD => [0xB2]
  | .orE => [0xB3]
  | .orH => [0xB4]
  | .orL => [0xB5]
  | .orMemHl => [0xB6]
  | .orA => [0xB7]
  | .cpB => [0xB8]
  | .cpC => [0xB9]
  | .cpD => [0xBA]
  | .cpE => [0xBB]
  | .cpH => [0xBC]
  | .cpL => [0xBD]
  | .cpMemHl => [0xBE]
  | .cpA => [0xBF]
  | .retNz => [0xC0]
  | .popBc => [0xC1]
  | .pushBc => [0xC5]
  | .rst00 => [0xC7]
  | .retZ => [0xC8]
  | .ret => [0xC9]
  | .prefixCb => [0xCB]
  | .rst08 => [0xCF]
  | .retNc => [0xD0]
  | .popDe => [0xD1]
  | .illegalD3 => [0xD3]
  | .pushDe => [0xD5]
  | .rst10 => [0xD7]
  | .retC => [0xD8]
  | .reti => [0xD9]
  | .illegalDB => [0xDB]
  | .illegalDD => [0xDD]
  | .rst18 => [0xDF]
  | .popHl => [0xE1]
  | .ldMemCA => [0xE2]
  | .illegalE3 => [0xE3]
  | .illegalE4 => [0xE4]
  | .pushHl => [0xE5]
  | .rst20 => [0xE7]
  | .jpHl => [0xE9]
  | .illegalEB => [0xEB]
  | .illegalEC => [0xEC]
  | .illegalED => [0xED]
  | .rst28 => [0xEF]
  | .popAf => [0xF1]
  | .ldAMemC => [0xF2]
  | .di => [0xF3]
  | .illegalF4 => [0xF4]
  | .pushAf => [0xF5]
  | .rst30 => [0xF7]
  | .ldSpHl => [0xF9]
  | .ei => [0xFB]
  | .illegalFC => [0xFC]
  | .illegalFD => [0xFD]
  | .rst38 => [0xFF]
  | .cbRlcB => [0xCB, 0x00]
  | .cbRlcC => [0xCB, 0x01]
  | .cbRlcD => [0xCB, 0x02]
  | .cbRlcE => [0xCB, 0x03]
  | .cbRlcH => [0xCB, 0x04]
  | .cbRlcL => [0xCB, 0x05]
  | .cbRlcMemHl => [0xCB, 0x06]
  | .cbRlcA => [0xCB, 0x07]
  | .cbRrcB => [0xCB, 0x08]
  | .cbRrcC => [0xCB, 0x09]
  | .cbRrcD => [0xCB, 0x0A]
  | .cbRrcE => [0xCB, 0x0B]
  | .cbRrcH => [0xCB, 0x0C]
  | .cbRrcL => [0xCB, 0x0D]
  | .cbRrcMemHl => [0xCB, 0x0E]
  | .cbRrcA => [0xCB, 0x0F]
  | .cbRlB => [0xCB, 0x10]
  | .cbRlC => [0xCB, 0x11]
  | .cbRlD => [0xCB, 0x12]
  | .cbRlE => [0xCB, 0x13]
  | .cbRlH => [0xCB, 0x14]
  | .cbRlL => [0xCB, 0x15]
  | .cbRlMemHl => [0xCB, 0x16]
  | .cbRlA => [0xCB, 0x17]
  | .cbRrB => [0xCB, 0x18]
  | .cbRrC => [0xCB, 0x19]
  | .cbRrD => [0xCB, 0x1A]
  | .cbRrE => [0xCB, 0x1B]
  | .cbRrH => [0xCB, 0x1C]
  | .cbRrL => [0xCB, 0x1D]
  | .cbRrMemHl => [0xCB, 0x1E]
  | .cbRrA => [0xCB, 0x1F]
  | .cbSlaB => [0xCB, 0x20]
  | .cbSlaC => [0xCB, 0x21]
  | .cbSlaD => [0xCB, 0x22]
  | .cbSlaE => [0xCB, 0x23]
  | .cbSlaH => [0xCB, 0x24]
  | .cbSlaL => [0xCB, 0x25]
  | .cbSlaMemHl => [0xCB, 0x26]
  | .cbSlaA => [0xCB, 0x27]
  | .cbSraB => [0xCB, 0x28]
  | .cbSraC => [0xCB, 0x29]
  | .cbSraD => [0xCB, 0x2A]
  | .cbSraE => [0xCB, 0x2B]
  | .cbSraH => [0xCB, 0x2C]
  | .cbSraL => [0xCB, 0x2D]
  | .cbSraMemHl => [0xCB, 0x2E]
  | .cbSraA => [0xCB, 0x2F]
  | .cbSwapB => [0xCB, 0x30]
  | .cbSwapC => [0xCB, 0x31]
  | .cbSwapD => [0xCB, 0x32]
  | .cbSwapE => [0xCB, 0x33]
  | .cbSwapH => [0xCB, 0x34]
  | .cbSwapL => [0xCB, 0x35]
  | .cbSwapMemHl => [0xCB, 0x36]
  | .cbSwapA => [0xCB, 0x37]
  | .cbSrlB => [0xCB, 0x38]
  | .cbSrlC => [0xCB, 0x39]
  | .cbSrlD => [0xCB, 0x3A]
  | .cbSrlE => [0xCB, 0x3B]
  | .cbSrlH => [0xCB, 0x3C]
  | .cbSrlL => [0xCB, 0x3D]
  | .cbSrlMemHl => [0xCB, 0x3E]
  | .cbSrlA => [0xCB, 0x3F]
  | .cbBit0B => [0xCB, 0x40]
  | .cbBit0C => [0xCB, 0x41]
  | .cbBit0D => [0xCB, 0x42]
  | .cbBit0E => [0xCB, 0x43]
  | .cbBit0H => [0xCB, 0x44]
  | .cbBit0L => [0xCB, 0x45]
  | .cbBit0MemHl => [0xCB, 0x46]
  | .cbBit0A => [0xCB, 0x47]
  | .cbBit1B => [0xCB, 0x48]
  | .cbBit1C => [0xCB, 0x49]
  | .cbBit1D => [0xCB, 0x4A]
  | .cbBit1E => [0xCB, 0x4B]
  | .cbBit1H => [0xCB, 0x4C]
  | .cbBit1L => [0xCB, 0x4D]
  | .cbBit1MemHl => [0xCB, 0x4E]
  | .cbBit1A => [0xCB, 0x4F]
  | .cbBit2B => [0xCB, 0x50]
  | .cbBit2C => [0xCB, 0x51]
  | .cbBit2D => [0xCB, 0x52]
  | .cbBit2E => [0xCB, 0x53]
  | .cbBit2H => [0xCB, 0x54]
  | .cbBit2L => [0xCB, 0x55]
  | .cbBit2MemHl => [0xCB, 0x56]
  | .cbBit2A => [0xCB, 0x57]
  | .cbBit3B => [0xCB, 0x58]
  | .cbBit3C => [0xCB, 0x59]
  | .cbBit3D => [0xCB, 0x5A]
  | .cbBit3E => [0xCB, 0x5B]
  | .cbBit3H => [0xCB, 0x5C]
  | .cbBit3L => [0xCB, 0x5D]
  | .cbBit3MemHl => [0xCB, 0x5E]
  | .cbBit3A => [0xCB, 0x5F]
  | .cbBit4B => [0xCB, 0x60]
  | .cbBit4C => [0xCB, 0x61]
  | .cbBit4D => [0xCB, 0x62]
  | .cbBit4E => [0xCB, 0x63]
  | .cbBit4H => [0xCB, 0x64]
  | .cbBit4L => [0xCB, 0x65]
  | .cbBit4MemHl => [0xCB, 0x66]
  | .cbBit4A => [0xCB, 0x67]
  | .cbBit5B => [0xCB, 0x68]
  | .cbBit5C => [0xCB, 0x69]
  | .cbBit5D => [0xCB, 0x6A]
  | .cbBit5E => [0xCB, 0x6B]
  | .cbBit5H => [0xCB, 0x6C]
  | .cbBit5L => [0xCB, 0x6D]
  | .cbBit5MemHl => [0xCB, 0x6E]
  | .cbBit5A => [0xCB, 0x6F]
  | .cbBit6B => [0xCB, 0x70]
  | .cbBit6C => [0xCB, 0x71]
  | .cbBit6D => [0xCB, 0x72]
  | .cbBit6E => [0xCB, 0x73]
  | .cbBit6H => [0xCB, 0x74]
  | .cbBit6L => [0xCB, 0x75]
  | .cbBit6MemHl => [0xCB, 0x76]
  | .cbBit6A => [0xCB, 0x77]
  | .cbBit7B => [0xCB, 0x78]
  | .cbBit7C => [0xCB, 0x79]
  | .cbBit7D => [0xCB, 0x7A]
  | .cbBit7E => [0xCB, 0x7B]
  | .cbBit7H => [0xCB, 0x7C]
  | .cbBit7L => [0xCB, 0x7D]
  | .cbBit7MemHl => [0xCB, 0x7E]
  | .cbBit7A => [0xCB, 0x7F]
  | .cbRes0B => [0xCB, 0x80]
  | .cbRes0C => [0xCB, 0x81]
  | .cbRes0D => [0xCB, 0x82]
  | .cbRes0E => [0xCB, 0x83]
  | .cbRes0H => [0xCB, 0x84]
  | .cbRes0L => [0xCB, 0x85]
  | .cbRes0MemHl => [0xCB, 0x86]
  | .cbRes0A => [0xCB, 0x87]
  | .cbRes1B => [0xCB, 0x88]
  | .cbRes1C => [0xCB, 0x89]
  | .cbRes1D => [0xCB, 0x8A]
  | .cbRes1E => [0xCB, 0x8B]
  | .cbRes1H => [0xCB, 0x8C]
  | .cbRes1L => [0xCB, 0x8D]
  | .cbRes1MemHl => [0xCB, 0x8E]
  | .cbRes1A => [0xCB, 0x8F]
  | .cbRes2B => [0xCB, 0x90]
  | .cbRes2C => [0xCB, 0x91]
  | .cbRes2D => [0xCB, 0x92]
  | .cbRes2E => [0xCB, 0x93]
  | .cbRes2H => [0xCB, 0x94]
  | .cbRes2L => [0xCB, 0x95]
  | .cbRes2MemHl => [0xCB, 0x96]
  | .cbRes2A => [0xCB, 0x97]
  | .cbRes3B => [0xCB, 0x98]
  | .cbRes3C => [0xCB, 0x99]
  | .cbRes3D => [0xCB, 0x9A]
  | .cbRes3E => [0xCB, 0x9B]
  | .cbRes3H => [0xCB, 0x9C]
  | .cbRes3L => [0xCB, 0x9D]
  | .cbRes3MemHl => [0xCB, 0x9E]
  | .cbRes3A => [0xCB, 0x9F]
  | .cbRes4B => [0xCB, 0xA0]
  | .cbRes4C => [0xCB, 0xA1]
  | .cbRes4D => [0xCB, 0xA2]
  | .cbRes4E => [0xCB, 0xA3]
  | .cbRes4H => [0xCB, 0xA4]
  | .cbRes4L => [0xCB, 0xA5]
  | .cbRes4MemHl => [0xCB, 0xA6]
  | .cbRes4A => [0xCB, 0xA7]
  | .cbRes5B => [0xCB, 0xA8]
  | .cbRes5C => [0xCB, 0xA9]
  | .cbRes5D => [0xCB, 0xAA]
  | .cbRes5E => [0xCB, 0xAB]
  | .cbRes5H => [0xCB, 0xAC]
  | .cbRes5L => [0xCB, 0xAD]
  | .cbRes5MemHl => [0xCB, 0xAE]
  | .cbRes5A => [0xCB, 0xAF]
  | .cbRes6B => [0xCB, 0xB0]
  | .cbRes6C => [0xCB, 0xB1]
  | .cbRes6D => [0xCB, 0xB2]
  | .cbRes6E => [0xCB, 0xB3]
  | .cbRes6H => [0xCB, 0xB4]
  | .cbRes6L => [0xCB, 0xB5]
  | .cbRes6MemHl => [0xCB, 0xB6]
  | .cbRes6A => [0xCB, 0xB7]
  | .cbRes7B => [0xCB, 0xB8]
  | .cbRes7C => [0xCB, 0xB9]
  | .cbRes7D => [0xCB, 0xBA]
  | .cbRes7E => [0xCB, 0xBB]
  | .cbRes7H => [0xCB, 0xBC]
  | .cbRes7L => [0xCB, 0xBD]
  | .cbRes7MemHl => [0xCB, 0xBE]
  | .cbRes7A => [0xCB, 0xBF]
  | .cbSet0B => [0xCB, 0xC0]
  | .cbSet0C => [0xCB, 0xC1]
  | .cbSet0D => [0xCB, 0xC2]
  | .cbSet0E => [0xCB, 0xC3]
  | .cbSet0H => [0xCB, 0xC4]
  | .cbSet0L => [0xCB, 0xC5]
  | .cbSet0MemHl => [0xCB, 0xC6]
  | .cbSet0A => [0xCB, 0xC7]
  | .cbSet1B => [0xCB, 0xC8]
  | .cbSet1C => [0xCB, 0xC9]
  | .cbSet1D => [0xCB, 0xCA]
  | .cbSet1E => [0xCB, 0xCB]
  | .cbSet1H => [0xCB, 0xCC]
  | .cbSet1L => [0xCB, 0xCD]
  | .cbSet1MemHl => [0xCB, 0xCE]
  | .cbSet1A => [0xCB, 0xCF]
  | .cbSet2B => [0xCB, 0xD0]
  | .cbSet2C => [0xCB, 0xD1]
  | .cbSet2D => [0xCB, 0xD2]
  | .cbSet2E => [0xCB, 0xD3]
  | .cbSet2H => [0xCB, 0xD4]
  | .cbSet2L => [0xCB, 0xD5]
  | .cbSet2MemHl => [0xCB, 0xD6]
  | .cbSet2A => [0xCB, 0xD7]
  | .cbSet3B => [0xCB, 0xD8]
  | .cbSet3C => [0xCB, 0xD9]
  | .cbSet3D => [0xCB, 0xDA]
  | .cbSet3E => [0xCB, 0xDB]
  | .cbSet3H => [0xCB, 0xDC]
  | .cbSet3L => [0xCB, 0xDD]
  | .cbSet3MemHl => [0xCB, 0xDE]
  | .cbSet3A => [0xCB, 0xDF]
  | .cbSet4B => [0xCB, 0xE0]
  | .cbSet4C => [0xCB, 0xE1]
  | .cbSet4D => [0xCB, 0xE2]
  | .cbSet4E => [0xCB, 0xE3]
  | .cbSet4H => [0xCB, 0xE4]
  | .cbSet4L => [0xCB, 0xE5]
  | .cbSet4MemHl => [0xCB, 0xE6]
  | .cbSet4A => [0xCB, 0xE7]
  | .cbSet5B => [0xCB, 0xE8]
  | .cbSet5C => [0xCB, 0xE9]
  | .cbSet5D => [0xCB, 0xEA]
  | .cbSet5E => [0xCB, 0xEB]
  | .cbSet5H => [0xCB, 0xEC]
  | .cbSet5L => [0xCB, 0xED]
  | .cbSet5MemHl => [0xCB, 0xEE]
  | .cbSet5A => [0xCB, 0xEF]
  | .cbSet6B => [0xCB, 0xF0]
  | .cbSet6C => [0xCB, 0xF1]
  | .cbSet6D => [0xCB, 0xF2]
  | .cbSet6E => [0xCB, 0xF3]
  | .cbSet6H => [0xCB, 0xF4]
  | .cbSet6L => [0xCB, 0xF5]
  | .cbSet6MemHl => [0xCB, 0xF6]
  | .cbSet6A => [0xCB, 0xF7]
  | .cbSet7B => [0xCB, 0xF8]
  | .cbSet7C => [0xCB, 0xF9]
  | .cbSet7D => [0xCB, 0xFA]
  | .cbSet7E => [0xCB, 0xFB]
  | .cbSet7H => [0xCB, 0xFC]
  | .cbSet7L => [0xCB, 0xFD]
  | .cbSet7MemHl => [0xCB, 0xFE]
  | .cbSet7A => [0xCB, 0xFF]

/-! ### Fields -/

/-- An instruction read by its fields (30_encoding.md rules R102, R106, R107). -/
def Instr.form : Instr → Form
  | .ldBcD16 d16 => .ldPairImm .bc d16
  | .ldBD8 d8 => .ldRegImm .b d8
  | .ldMemA16Sp a16 => .ldAbsSp a16
  | .ldCD8 d8 => .ldRegImm .c d8
  | .stop d8 => .stop d8
  | .ldDeD16 d16 => .ldPairImm .de d16
  | .ldDD8 d8 => .ldRegImm .d d8
  | .jrR8 r8 => .jr r8
  | .ldED8 d8 => .ldRegImm .e d8
  | .jrNzR8 r8 => .jrCc .nz r8
  | .ldHlD16 d16 => .ldPairImm .hl d16
  | .ldHD8 d8 => .ldRegImm .h d8
  | .jrZR8 r8 => .jrCc .z r8
  | .ldLD8 d8 => .ldRegImm .l d8
  | .jrNcR8 r8 => .jrCc .nc r8
  | .ldSpD16 d16 => .ldPairImm .sp d16
  | .ldMemHlD8 d8 => .ldMemImm d8
  | .jrCR8 r8 => .jrCc .c r8
  | .ldAD8 d8 => .ldRegImm .a d8
  | .jpNzA16 a16 => .jpCc .nz a16
  | .jpA16 a16 => .jp a16
  | .callNzA16 a16 => .callCc .nz a16
  | .addAD8 d8 => .alu .add (.imm d8)
  | .jpZA16 a16 => .jpCc .z a16
  | .callZA16 a16 => .callCc .z a16
  | .callA16 a16 => .call a16
  | .adcAD8 d8 => .alu .adc (.imm d8)
  | .jpNcA16 a16 => .jpCc .nc a16
  | .callNcA16 a16 => .callCc .nc a16
  | .subD8 d8 => .alu .sub (.imm d8)
  | .jpCA16 a16 => .jpCc .c a16
  | .callCA16 a16 => .callCc .c a16
  | .sbcAD8 d8 => .alu .sbc (.imm d8)
  | .ldhMemA8A a8 => .ldhStore a8
  | .andD8 d8 => .alu .and (.imm d8)
  | .addSpR8 r8 => .addSp r8
  | .ldMemA16A a16 => .ldAbsA a16
  | .xorD8 d8 => .alu .xor (.imm d8)
  | .ldhAMemA8 a8 => .ldhLoad a8
  | .orD8 d8 => .alu .or (.imm d8)
  | .ldHlSpR8 r8 => .ldHlSp r8
  | .ldAMemA16 a16 => .ldAAbs a16
  | .cpD8 d8 => .alu .cp (.imm d8)
  | .nop => .nop
  | .ldMemBcA => .ldPtrA .bc
  | .incBc => .inc16 .bc
  | .incB => .inc8 (.reg .b)
  | .decB => .dec8 (.reg .b)
  | .rlca => .rotA .rlc
  | .addHlBc => .addHl .bc
  | .ldAMemBc => .ldAPtr .bc
  | .decBc => .dec16 .bc
  | .incC => .inc8 (.reg .c)
  | .decC => .dec8 (.reg .c)
  | .rrca => .rotA .rrc
  | .ldMemDeA => .ldPtrA .de
  | .incDe => .inc16 .de
  | .incD => .inc8 (.reg .d)
  | .decD => .dec8 (.reg .d)
  | .rla => .rotA .rl
  | .addHlDe => .addHl .de
  | .ldAMemDe => .ldAPtr .de
  | .decDe => .dec16 .de
  | .incE => .inc8 (.reg .e)
  | .decE => .dec8 (.reg .e)
  | .rra => .rotA .rr
  | .ldMemHlIncA => .ldPtrA .hlInc
  | .incHl => .inc16 .hl
  | .incH => .inc8 (.reg .h)
  | .decH => .dec8 (.reg .h)
  | .daa => .daa
  | .addHlHl => .addHl .hl
  | .ldAMemHlInc => .ldAPtr .hlInc
  | .decHl => .dec16 .hl
  | .incL => .inc8 (.reg .l)
  | .decL => .dec8 (.reg .l)
  | .cplA => .cpl
  | .ldMemHlDecA => .ldPtrA .hlDec
  | .incSp => .inc16 .sp
  | .incMemHl => .inc8 .memHl
  | .decMemHl => .dec8 .memHl
  | .scf => .scf
  | .addHlSp => .addHl .sp
  | .ldAMemHlDec => .ldAPtr .hlDec
  | .decSp => .dec16 .sp
  | .incA => .inc8 (.reg .a)
  | .decA => .dec8 (.reg .a)
  | .ccf => .ccf
  | .ldBB => .ldRegReg .b .b
  | .ldBC => .ldRegReg .b .c
  | .ldBD => .ldRegReg .b .d
  | .ldBE => .ldRegReg .b .e
  | .ldBH => .ldRegReg .b .h
  | .ldBL => .ldRegReg .b .l
  | .ldBMemHl => .ldRegMem .b
  | .ldBA => .ldRegReg .b .a
  | .ldCB => .ldRegReg .c .b
  | .ldCC => .ldRegReg .c .c
  | .ldCD => .ldRegReg .c .d
  | .ldCE => .ldRegReg .c .e
  | .ldCH => .ldRegReg .c .h
  | .ldCL => .ldRegReg .c .l
  | .ldCMemHl => .ldRegMem .c
  | .ldCA => .ldRegReg .c .a
  | .ldDB => .ldRegReg .d .b
  | .ldDC => .ldRegReg .d .c
  | .ldDD => .ldRegReg .d .d
  | .ldDE => .ldRegReg .d .e
  | .ldDH => .ldRegReg .d .h
  | .ldDL => .ldRegReg .d .l
  | .ldDMemHl => .ldRegMem .d
  | .ldDA => .ldRegReg .d .a
  | .ldEB => .ldRegReg .e .b
  | .ldEC => .ldRegReg .e .c
  | .ldED => .ldRegReg .e .d
  | .ldEE => .ldRegReg .e .e
  | .ldEH => .ldRegReg .e .h
  | .ldEL => .ldRegReg .e .l
  | .ldEMemHl => .ldRegMem .e
  | .ldEA => .ldRegReg .e .a
  | .ldHB => .ldRegReg .h .b
  | .ldHC => .ldRegReg .h .c
  | .ldHD => .ldRegReg .h .d
  | .ldHE => .ldRegReg .h .e
  | .ldHH => .ldRegReg .h .h
  | .ldHL => .ldRegReg .h .l
  | .ldHMemHl => .ldRegMem .h
  | .ldHA => .ldRegReg .h .a
  | .ldLB => .ldRegReg .l .b
  | .ldLC => .ldRegReg .l .c
  | .ldLD => .ldRegReg .l .d
  | .ldLE => .ldRegReg .l .e
  | .ldLH => .ldRegReg .l .h
  | .ldLL => .ldRegReg .l .l
  | .ldLMemHl => .ldRegMem .l
  | .ldLA => .ldRegReg .l .a
  | .ldMemHlB => .ldMemReg .b
  | .ldMemHlC => .ldMemReg .c
  | .ldMemHlD => .ldMemReg .d
  | .ldMemHlE => .ldMemReg .e
  | .ldMemHlH => .ldMemReg .h
  | .ldMemHlL => .ldMemReg .l
  | .halt => .halt
  | .ldMemHlA => .ldMemReg .a
  | .ldAB => .ldRegReg .a .b
  | .ldAC => .ldRegReg .a .c
  | .ldAD => .ldRegReg .a .d
  | .ldAE => .ldRegReg .a .e
  | .ldAH => .ldRegReg .a .h
  | .ldAL => .ldRegReg .a .l
  | .ldAMemHl => .ldRegMem .a
  | .ldAA => .ldRegReg .a .a
  | .addAB => .alu .add (.opnd (.reg .b))
  | .addAC => .alu .add (.opnd (.reg .c))
  | .addAD => .alu .add (.opnd (.reg .d))
  | .addAE => .alu .add (.opnd (.reg .e))
  | .addAH => .alu .add (.opnd (.reg .h))
  | .addAL => .alu .add (.opnd (.reg .l))
  | .addAMemHl => .alu .add (.opnd .memHl)
  | .addAA => .alu .add (.opnd (.reg .a))
  | .adcAB => .alu .adc (.opnd (.reg .b))
  | .adcAC => .alu .adc (.opnd (.reg .c))
  | .adcAD => .alu .adc (.opnd (.reg .d))
  | .adcAE => .alu .adc (.opnd (.reg .e))
  | .adcAH => .alu .adc (.opnd (.reg .h))
  | .adcAL => .alu .adc (.opnd (.reg .l))
  | .adcAMemHl => .alu .adc (.opnd .memHl)
  | .adcAA => .alu .adc (.opnd (.reg .a))
  | .subB => .alu .sub (.opnd (.reg .b))
  | .subC => .alu .sub (.opnd (.reg .c))
  | .subD => .alu .sub (.opnd (.reg .d))
  | .subE => .alu .sub (.opnd (.reg .e))
  | .subH => .alu .sub (.opnd (.reg .h))
  | .subL => .alu .sub (.opnd (.reg .l))
  | .subMemHl => .alu .sub (.opnd .memHl)
  | .subA => .alu .sub (.opnd (.reg .a))
  | .sbcAB => .alu .sbc (.opnd (.reg .b))
  | .sbcAC => .alu .sbc (.opnd (.reg .c))
  | .sbcAD => .alu .sbc (.opnd (.reg .d))
  | .sbcAE => .alu .sbc (.opnd (.reg .e))
  | .sbcAH => .alu .sbc (.opnd (.reg .h))
  | .sbcAL => .alu .sbc (.opnd (.reg .l))
  | .sbcAMemHl => .alu .sbc (.opnd .memHl)
  | .sbcAA => .alu .sbc (.opnd (.reg .a))
  | .andB => .alu .and (.opnd (.reg .b))
  | .andC => .alu .and (.opnd (.reg .c))
  | .andD => .alu .and (.opnd (.reg .d))
  | .andE => .alu .and (.opnd (.reg .e))
  | .andH => .alu .and (.opnd (.reg .h))
  | .andL => .alu .and (.opnd (.reg .l))
  | .andMemHl => .alu .and (.opnd .memHl)
  | .andA => .alu .and (.opnd (.reg .a))
  | .xorB => .alu .xor (.opnd (.reg .b))
  | .xorC => .alu .xor (.opnd (.reg .c))
  | .xorD => .alu .xor (.opnd (.reg .d))
  | .xorE => .alu .xor (.opnd (.reg .e))
  | .xorH => .alu .xor (.opnd (.reg .h))
  | .xorL => .alu .xor (.opnd (.reg .l))
  | .xorMemHl => .alu .xor (.opnd .memHl)
  | .xorA => .alu .xor (.opnd (.reg .a))
  | .orB => .alu .or (.opnd (.reg .b))
  | .orC => .alu .or (.opnd (.reg .c))
  | .orD => .alu .or (.opnd (.reg .d))
  | .orE => .alu .or (.opnd (.reg .e))
  | .orH => .alu .or (.opnd (.reg .h))
  | .orL => .alu .or (.opnd (.reg .l))
  | .orMemHl => .alu .or (.opnd .memHl)
  | .orA => .alu .or (.opnd (.reg .a))
  | .cpB => .alu .cp (.opnd (.reg .b))
  | .cpC => .alu .cp (.opnd (.reg .c))
  | .cpD => .alu .cp (.opnd (.reg .d))
  | .cpE => .alu .cp (.opnd (.reg .e))
  | .cpH => .alu .cp (.opnd (.reg .h))
  | .cpL => .alu .cp (.opnd (.reg .l))
  | .cpMemHl => .alu .cp (.opnd .memHl)
  | .cpA => .alu .cp (.opnd (.reg .a))
  | .retNz => .retCc .nz
  | .popBc => .pop .bc
  | .pushBc => .push .bc
  | .rst00 => .rst 0
  | .retZ => .retCc .z
  | .ret => .ret
  | .prefixCb => .escape
  | .rst08 => .rst 1
  | .retNc => .retCc .nc
  | .popDe => .pop .de
  | .illegalD3 => .unassigned 0xD3
  | .pushDe => .push .de
  | .rst10 => .rst 2
  | .retC => .retCc .c
  | .reti => .reti
  | .illegalDB => .unassigned 0xDB
  | .illegalDD => .unassigned 0xDD
  | .rst18 => .rst 3
  | .popHl => .pop .hl
  | .ldMemCA => .ldHighCA
  | .illegalE3 => .unassigned 0xE3
  | .illegalE4 => .unassigned 0xE4
  | .pushHl => .push .hl
  | .rst20 => .rst 4
  | .jpHl => .jpHl
  | .illegalEB => .unassigned 0xEB
  | .illegalEC => .unassigned 0xEC
  | .illegalED => .unassigned 0xED
  | .rst28 => .rst 5
  | .popAf => .pop .af
  | .ldAMemC => .ldAHighC
  | .di => .di
  | .illegalF4 => .unassigned 0xF4
  | .pushAf => .push .af
  | .rst30 => .rst 6
  | .ldSpHl => .ldSpHl
  | .ei => .ei
  | .illegalFC => .unassigned 0xFC
  | .illegalFD => .unassigned 0xFD
  | .rst38 => .rst 7
  | .cbRlcB => .shift .rlc (.reg .b)
  | .cbRlcC => .shift .rlc (.reg .c)
  | .cbRlcD => .shift .rlc (.reg .d)
  | .cbRlcE => .shift .rlc (.reg .e)
  | .cbRlcH => .shift .rlc (.reg .h)
  | .cbRlcL => .shift .rlc (.reg .l)
  | .cbRlcMemHl => .shift .rlc .memHl
  | .cbRlcA => .shift .rlc (.reg .a)
  | .cbRrcB => .shift .rrc (.reg .b)
  | .cbRrcC => .shift .rrc (.reg .c)
  | .cbRrcD => .shift .rrc (.reg .d)
  | .cbRrcE => .shift .rrc (.reg .e)
  | .cbRrcH => .shift .rrc (.reg .h)
  | .cbRrcL => .shift .rrc (.reg .l)
  | .cbRrcMemHl => .shift .rrc .memHl
  | .cbRrcA => .shift .rrc (.reg .a)
  | .cbRlB => .shift .rl (.reg .b)
  | .cbRlC => .shift .rl (.reg .c)
  | .cbRlD => .shift .rl (.reg .d)
  | .cbRlE => .shift .rl (.reg .e)
  | .cbRlH => .shift .rl (.reg .h)
  | .cbRlL => .shift .rl (.reg .l)
  | .cbRlMemHl => .shift .rl .memHl
  | .cbRlA => .shift .rl (.reg .a)
  | .cbRrB => .shift .rr (.reg .b)
  | .cbRrC => .shift .rr (.reg .c)
  | .cbRrD => .shift .rr (.reg .d)
  | .cbRrE => .shift .rr (.reg .e)
  | .cbRrH => .shift .rr (.reg .h)
  | .cbRrL => .shift .rr (.reg .l)
  | .cbRrMemHl => .shift .rr .memHl
  | .cbRrA => .shift .rr (.reg .a)
  | .cbSlaB => .shift .sla (.reg .b)
  | .cbSlaC => .shift .sla (.reg .c)
  | .cbSlaD => .shift .sla (.reg .d)
  | .cbSlaE => .shift .sla (.reg .e)
  | .cbSlaH => .shift .sla (.reg .h)
  | .cbSlaL => .shift .sla (.reg .l)
  | .cbSlaMemHl => .shift .sla .memHl
  | .cbSlaA => .shift .sla (.reg .a)
  | .cbSraB => .shift .sra (.reg .b)
  | .cbSraC => .shift .sra (.reg .c)
  | .cbSraD => .shift .sra (.reg .d)
  | .cbSraE => .shift .sra (.reg .e)
  | .cbSraH => .shift .sra (.reg .h)
  | .cbSraL => .shift .sra (.reg .l)
  | .cbSraMemHl => .shift .sra .memHl
  | .cbSraA => .shift .sra (.reg .a)
  | .cbSwapB => .shift .swap (.reg .b)
  | .cbSwapC => .shift .swap (.reg .c)
  | .cbSwapD => .shift .swap (.reg .d)
  | .cbSwapE => .shift .swap (.reg .e)
  | .cbSwapH => .shift .swap (.reg .h)
  | .cbSwapL => .shift .swap (.reg .l)
  | .cbSwapMemHl => .shift .swap .memHl
  | .cbSwapA => .shift .swap (.reg .a)
  | .cbSrlB => .shift .srl (.reg .b)
  | .cbSrlC => .shift .srl (.reg .c)
  | .cbSrlD => .shift .srl (.reg .d)
  | .cbSrlE => .shift .srl (.reg .e)
  | .cbSrlH => .shift .srl (.reg .h)
  | .cbSrlL => .shift .srl (.reg .l)
  | .cbSrlMemHl => .shift .srl .memHl
  | .cbSrlA => .shift .srl (.reg .a)
  | .cbBit0B => .bit 0 (.reg .b)
  | .cbBit0C => .bit 0 (.reg .c)
  | .cbBit0D => .bit 0 (.reg .d)
  | .cbBit0E => .bit 0 (.reg .e)
  | .cbBit0H => .bit 0 (.reg .h)
  | .cbBit0L => .bit 0 (.reg .l)
  | .cbBit0MemHl => .bit 0 .memHl
  | .cbBit0A => .bit 0 (.reg .a)
  | .cbBit1B => .bit 1 (.reg .b)
  | .cbBit1C => .bit 1 (.reg .c)
  | .cbBit1D => .bit 1 (.reg .d)
  | .cbBit1E => .bit 1 (.reg .e)
  | .cbBit1H => .bit 1 (.reg .h)
  | .cbBit1L => .bit 1 (.reg .l)
  | .cbBit1MemHl => .bit 1 .memHl
  | .cbBit1A => .bit 1 (.reg .a)
  | .cbBit2B => .bit 2 (.reg .b)
  | .cbBit2C => .bit 2 (.reg .c)
  | .cbBit2D => .bit 2 (.reg .d)
  | .cbBit2E => .bit 2 (.reg .e)
  | .cbBit2H => .bit 2 (.reg .h)
  | .cbBit2L => .bit 2 (.reg .l)
  | .cbBit2MemHl => .bit 2 .memHl
  | .cbBit2A => .bit 2 (.reg .a)
  | .cbBit3B => .bit 3 (.reg .b)
  | .cbBit3C => .bit 3 (.reg .c)
  | .cbBit3D => .bit 3 (.reg .d)
  | .cbBit3E => .bit 3 (.reg .e)
  | .cbBit3H => .bit 3 (.reg .h)
  | .cbBit3L => .bit 3 (.reg .l)
  | .cbBit3MemHl => .bit 3 .memHl
  | .cbBit3A => .bit 3 (.reg .a)
  | .cbBit4B => .bit 4 (.reg .b)
  | .cbBit4C => .bit 4 (.reg .c)
  | .cbBit4D => .bit 4 (.reg .d)
  | .cbBit4E => .bit 4 (.reg .e)
  | .cbBit4H => .bit 4 (.reg .h)
  | .cbBit4L => .bit 4 (.reg .l)
  | .cbBit4MemHl => .bit 4 .memHl
  | .cbBit4A => .bit 4 (.reg .a)
  | .cbBit5B => .bit 5 (.reg .b)
  | .cbBit5C => .bit 5 (.reg .c)
  | .cbBit5D => .bit 5 (.reg .d)
  | .cbBit5E => .bit 5 (.reg .e)
  | .cbBit5H => .bit 5 (.reg .h)
  | .cbBit5L => .bit 5 (.reg .l)
  | .cbBit5MemHl => .bit 5 .memHl
  | .cbBit5A => .bit 5 (.reg .a)
  | .cbBit6B => .bit 6 (.reg .b)
  | .cbBit6C => .bit 6 (.reg .c)
  | .cbBit6D => .bit 6 (.reg .d)
  | .cbBit6E => .bit 6 (.reg .e)
  | .cbBit6H => .bit 6 (.reg .h)
  | .cbBit6L => .bit 6 (.reg .l)
  | .cbBit6MemHl => .bit 6 .memHl
  | .cbBit6A => .bit 6 (.reg .a)
  | .cbBit7B => .bit 7 (.reg .b)
  | .cbBit7C => .bit 7 (.reg .c)
  | .cbBit7D => .bit 7 (.reg .d)
  | .cbBit7E => .bit 7 (.reg .e)
  | .cbBit7H => .bit 7 (.reg .h)
  | .cbBit7L => .bit 7 (.reg .l)
  | .cbBit7MemHl => .bit 7 .memHl
  | .cbBit7A => .bit 7 (.reg .a)
  | .cbRes0B => .res 0 (.reg .b)
  | .cbRes0C => .res 0 (.reg .c)
  | .cbRes0D => .res 0 (.reg .d)
  | .cbRes0E => .res 0 (.reg .e)
  | .cbRes0H => .res 0 (.reg .h)
  | .cbRes0L => .res 0 (.reg .l)
  | .cbRes0MemHl => .res 0 .memHl
  | .cbRes0A => .res 0 (.reg .a)
  | .cbRes1B => .res 1 (.reg .b)
  | .cbRes1C => .res 1 (.reg .c)
  | .cbRes1D => .res 1 (.reg .d)
  | .cbRes1E => .res 1 (.reg .e)
  | .cbRes1H => .res 1 (.reg .h)
  | .cbRes1L => .res 1 (.reg .l)
  | .cbRes1MemHl => .res 1 .memHl
  | .cbRes1A => .res 1 (.reg .a)
  | .cbRes2B => .res 2 (.reg .b)
  | .cbRes2C => .res 2 (.reg .c)
  | .cbRes2D => .res 2 (.reg .d)
  | .cbRes2E => .res 2 (.reg .e)
  | .cbRes2H => .res 2 (.reg .h)
  | .cbRes2L => .res 2 (.reg .l)
  | .cbRes2MemHl => .res 2 .memHl
  | .cbRes2A => .res 2 (.reg .a)
  | .cbRes3B => .res 3 (.reg .b)
  | .cbRes3C => .res 3 (.reg .c)
  | .cbRes3D => .res 3 (.reg .d)
  | .cbRes3E => .res 3 (.reg .e)
  | .cbRes3H => .res 3 (.reg .h)
  | .cbRes3L => .res 3 (.reg .l)
  | .cbRes3MemHl => .res 3 .memHl
  | .cbRes3A => .res 3 (.reg .a)
  | .cbRes4B => .res 4 (.reg .b)
  | .cbRes4C => .res 4 (.reg .c)
  | .cbRes4D => .res 4 (.reg .d)
  | .cbRes4E => .res 4 (.reg .e)
  | .cbRes4H => .res 4 (.reg .h)
  | .cbRes4L => .res 4 (.reg .l)
  | .cbRes4MemHl => .res 4 .memHl
  | .cbRes4A => .res 4 (.reg .a)
  | .cbRes5B => .res 5 (.reg .b)
  | .cbRes5C => .res 5 (.reg .c)
  | .cbRes5D => .res 5 (.reg .d)
  | .cbRes5E => .res 5 (.reg .e)
  | .cbRes5H => .res 5 (.reg .h)
  | .cbRes5L => .res 5 (.reg .l)
  | .cbRes5MemHl => .res 5 .memHl
  | .cbRes5A => .res 5 (.reg .a)
  | .cbRes6B => .res 6 (.reg .b)
  | .cbRes6C => .res 6 (.reg .c)
  | .cbRes6D => .res 6 (.reg .d)
  | .cbRes6E => .res 6 (.reg .e)
  | .cbRes6H => .res 6 (.reg .h)
  | .cbRes6L => .res 6 (.reg .l)
  | .cbRes6MemHl => .res 6 .memHl
  | .cbRes6A => .res 6 (.reg .a)
  | .cbRes7B => .res 7 (.reg .b)
  | .cbRes7C => .res 7 (.reg .c)
  | .cbRes7D => .res 7 (.reg .d)
  | .cbRes7E => .res 7 (.reg .e)
  | .cbRes7H => .res 7 (.reg .h)
  | .cbRes7L => .res 7 (.reg .l)
  | .cbRes7MemHl => .res 7 .memHl
  | .cbRes7A => .res 7 (.reg .a)
  | .cbSet0B => .set 0 (.reg .b)
  | .cbSet0C => .set 0 (.reg .c)
  | .cbSet0D => .set 0 (.reg .d)
  | .cbSet0E => .set 0 (.reg .e)
  | .cbSet0H => .set 0 (.reg .h)
  | .cbSet0L => .set 0 (.reg .l)
  | .cbSet0MemHl => .set 0 .memHl
  | .cbSet0A => .set 0 (.reg .a)
  | .cbSet1B => .set 1 (.reg .b)
  | .cbSet1C => .set 1 (.reg .c)
  | .cbSet1D => .set 1 (.reg .d)
  | .cbSet1E => .set 1 (.reg .e)
  | .cbSet1H => .set 1 (.reg .h)
  | .cbSet1L => .set 1 (.reg .l)
  | .cbSet1MemHl => .set 1 .memHl
  | .cbSet1A => .set 1 (.reg .a)
  | .cbSet2B => .set 2 (.reg .b)
  | .cbSet2C => .set 2 (.reg .c)
  | .cbSet2D => .set 2 (.reg .d)
  | .cbSet2E => .set 2 (.reg .e)
  | .cbSet2H => .set 2 (.reg .h)
  | .cbSet2L => .set 2 (.reg .l)
  | .cbSet2MemHl => .set 2 .memHl
  | .cbSet2A => .set 2 (.reg .a)
  | .cbSet3B => .set 3 (.reg .b)
  | .cbSet3C => .set 3 (.reg .c)
  | .cbSet3D => .set 3 (.reg .d)
  | .cbSet3E => .set 3 (.reg .e)
  | .cbSet3H => .set 3 (.reg .h)
  | .cbSet3L => .set 3 (.reg .l)
  | .cbSet3MemHl => .set 3 .memHl
  | .cbSet3A => .set 3 (.reg .a)
  | .cbSet4B => .set 4 (.reg .b)
  | .cbSet4C => .set 4 (.reg .c)
  | .cbSet4D => .set 4 (.reg .d)
  | .cbSet4E => .set 4 (.reg .e)
  | .cbSet4H => .set 4 (.reg .h)
  | .cbSet4L => .set 4 (.reg .l)
  | .cbSet4MemHl => .set 4 .memHl
  | .cbSet4A => .set 4 (.reg .a)
  | .cbSet5B => .set 5 (.reg .b)
  | .cbSet5C => .set 5 (.reg .c)
  | .cbSet5D => .set 5 (.reg .d)
  | .cbSet5E => .set 5 (.reg .e)
  | .cbSet5H => .set 5 (.reg .h)
  | .cbSet5L => .set 5 (.reg .l)
  | .cbSet5MemHl => .set 5 .memHl
  | .cbSet5A => .set 5 (.reg .a)
  | .cbSet6B => .set 6 (.reg .b)
  | .cbSet6C => .set 6 (.reg .c)
  | .cbSet6D => .set 6 (.reg .d)
  | .cbSet6E => .set 6 (.reg .e)
  | .cbSet6H => .set 6 (.reg .h)
  | .cbSet6L => .set 6 (.reg .l)
  | .cbSet6MemHl => .set 6 .memHl
  | .cbSet6A => .set 6 (.reg .a)
  | .cbSet7B => .set 7 (.reg .b)
  | .cbSet7C => .set 7 (.reg .c)
  | .cbSet7D => .set 7 (.reg .d)
  | .cbSet7E => .set 7 (.reg .e)
  | .cbSet7H => .set 7 (.reg .h)
  | .cbSet7L => .set 7 (.reg .l)
  | .cbSet7MemHl => .set 7 .memHl
  | .cbSet7A => .set 7 (.reg .a)

/-- The bytes of an instruction built from its operand fields, each opcode byte as the instruction's own rule gives its
bit pattern (the encoding lines of 40_load8.md to 46_misc.md, with the fields of 30_encoding.md rule R102). -/
def Form.bytes : Form → List Byte
  | .nop => [0x00]
  | .halt => [0x76]
  | .stop d8 => [0x10, d8]
  | .di => [0xF3]
  | .ei => [0xFB]
  | .ldRegReg d r => [0b01#2 ++ d.code ++ r.code]
  | .ldRegImm r d8 => [0b00#2 ++ r.code ++ 0b110#3, d8]
  | .ldRegMem d => [0b01#2 ++ d.code ++ 0b110#3]
  | .ldMemReg r => [0b01110#5 ++ r.code]
  | .ldMemImm d8 => [0x36, d8]
  | .ldAPtr p => [0b00#2 ++ p.code ++ 0b1010#4]
  | .ldPtrA p => [0b00#2 ++ p.code ++ 0b0010#4]
  | .ldAAbs a16 => [0xFA, lowByte a16, highByte a16]
  | .ldAbsA a16 => [0xEA, lowByte a16, highByte a16]
  | .ldhStore a8 => [0xE0, a8]
  | .ldhLoad a8 => [0xF0, a8]
  | .ldHighCA => [0xE2]
  | .ldAHighC => [0xF2]
  | .ldPairImm rr d16 => [0b00#2 ++ rr.code ++ 0b0001#4, lowByte d16, highByte d16]
  | .ldSpHl => [0xF9]
  | .ldAbsSp a16 => [0x08, lowByte a16, highByte a16]
  | .push qq => [0b11#2 ++ qq.code ++ 0b0101#4]
  | .pop qq => [0b11#2 ++ qq.code ++ 0b0001#4]
  | .ldHlSp r8 => [0xF8, r8]
  | .alu op (.opnd o) => [0b10#2 ++ op.code ++ o.code]
  | .alu op (.imm d8) => [0b11#2 ++ op.code ++ 0b110#3, d8]
  | .inc8 o => [0b00#2 ++ o.code ++ 0b100#3]
  | .dec8 o => [0b00#2 ++ o.code ++ 0b101#3]
  | .daa => [0x27]
  | .cpl => [0x2F]
  | .scf => [0x37]
  | .ccf => [0x3F]
  | .addHl rr => [0b00#2 ++ rr.code ++ 0b1001#4]
  | .inc16 rr => [0b00#2 ++ rr.code ++ 0b0011#4]
  | .dec16 rr => [0b00#2 ++ rr.code ++ 0b1011#4]
  | .addSp r8 => [0xE8, r8]
  | .rotA op => [0b000#3 ++ op.code ++ 0b111#3]
  | .shift op o => [0xCB, 0b00#2 ++ op.code ++ o.code]
  | .bit b o => [0xCB, 0b01#2 ++ b ++ o.code]
  | .res b o => [0xCB, 0b10#2 ++ b ++ o.code]
  | .set b o => [0xCB, 0b11#2 ++ b ++ o.code]
  | .jp a16 => [0xC3, lowByte a16, highByte a16]
  | .jpCc cc a16 => [0b110#3 ++ cc.code ++ 0b010#3, lowByte a16, highByte a16]
  | .jr r8 => [0x18, r8]
  | .jrCc cc r8 => [0b001#3 ++ cc.code ++ 0b000#3, r8]
  | .jpHl => [0xE9]
  | .call a16 => [0xCD, lowByte a16, highByte a16]
  | .callCc cc a16 => [0b110#3 ++ cc.code ++ 0b100#3, lowByte a16, highByte a16]
  | .rst t => [0b11#2 ++ t ++ 0b111#3]
  | .ret => [0xC9]
  | .retCc cc => [0b110#3 ++ cc.code ++ 0b000#3]
  | .reti => [0xD9]
  | .escape => [0xCB]
  | .unassigned op => [op]

/-- The rows `x = 0` of the second table of 30_encoding.md rule R106. -/
def formBlock0 (op b1 : Byte) (w : Word) : Form :=
  let y : BitVec 3 := op.extractLsb' 3 3
  let p : BitVec 2 := op.extractLsb' 4 2
  let q : Bool := op.getLsbD 3
  let cc : BitVec 2 := op.extractLsb' 3 2
  match (op.extractLsb' 0 3).toNat with
  | 0 =>
    match y.toNat with
    | 0 => .nop
    | 1 => .ldAbsSp w
    | 2 => .stop b1
    | 3 => .jr b1
    | _ => .jrCc (.ofCode cc) b1
  | 1 => if q then .addHl (.ofCode p) else .ldPairImm (.ofCode p) w
  | 2 => if q then .ldAPtr (.ofCode p) else .ldPtrA (.ofCode p)
  | 3 => if q then .dec16 (.ofCode p) else .inc16 (.ofCode p)
  | 4 => .inc8 (.ofCode y)
  | 5 => .dec8 (.ofCode y)
  | 6 =>
    match Opnd8.ofCode y with
    | .reg r => .ldRegImm r b1
    | .memHl => .ldMemImm b1
  | _ =>
    match y.toNat with
    | 4 => .daa
    | 5 => .cpl
    | 6 => .scf
    | 7 => .ccf
    | _ => .rotA (.ofCode cc)

/-- The row `x = 1` of the second table of 30_encoding.md rule R106. -/
def formBlock1 (op : Byte) : Form :=
  match Opnd8.ofCode (op.extractLsb' 3 3), Opnd8.ofCode (op.extractLsb' 0 3) with
  | .reg d, .reg r => .ldRegReg d r
  | .reg d, .memHl => .ldRegMem d
  | .memHl, .reg r => .ldMemReg r
  | .memHl, .memHl => .halt

/-- The rows `x = 3` of the second table of 30_encoding.md rule R106. -/
def formBlock3 (op b1 : Byte) (w : Word) : Form :=
  let y : BitVec 3 := op.extractLsb' 3 3
  let p : BitVec 2 := op.extractLsb' 4 2
  let q : Bool := op.getLsbD 3
  let cc : BitVec 2 := op.extractLsb' 3 2
  match (op.extractLsb' 0 3).toNat with
  | 0 =>
    match y.toNat with
    | 4 => .ldhStore b1
    | 5 => .addSp b1
    | 6 => .ldhLoad b1
    | 7 => .ldHlSp b1
    | _ => .retCc (.ofCode cc)
  | 1 =>
    if q then
      match p.toNat with
      | 0 => .ret
      | 1 => .reti
      | 2 => .jpHl
      | _ => .ldSpHl
    else .pop (.ofCode p)
  | 2 =>
    match y.toNat with
    | 4 => .ldHighCA
    | 5 => .ldAbsA w
    | 6 => .ldAHighC
    | 7 => .ldAAbs w
    | _ => .jpCc (.ofCode cc) w
  | 3 =>
    match y.toNat with
    | 0 => .jp w
    | 1 => .escape
    | 6 => .di
    | 7 => .ei
    | _ => .unassigned op
  | 4 => if y.toNat < 4 then .callCc (.ofCode cc) w else .unassigned op
  | 5 => if q then (if p = 0 then .call w else .unassigned op) else .push (.ofCode p)
  | 6 => .alu (.ofCode y) (.imm b1)
  | _ => .rst y

/-- The primary instruction of opcode `op` with operand bytes `b1`, `b2`, read by its fields (the second table of
30_encoding.md rule R106). -/
def primaryForm (op b1 b2 : Byte) : Form :=
  match (op.extractLsb' 6 2).toNat with
  | 0 => formBlock0 op b1 (b2 ++ b1)
  | 1 => formBlock1 op
  | 2 => .alu (.ofCode (op.extractLsb' 3 3)) (.opnd (.ofCode (op.extractLsb' 0 3)))
  | _ => formBlock3 op b1 (b2 ++ b1)

/-- The secondary instruction of `op2` read by its fields (the table of 30_encoding.md rule R107). -/
def secondaryForm (op2 : Byte) : Form :=
  let y := op2.extractLsb' 3 3
  let r := Opnd8.ofCode (op2.extractLsb' 0 3)
  match (op2.extractLsb' 6 2).toNat with
  | 0 => .shift (.ofCode y) r
  | 1 => .bit y r
  | 2 => .res y r
  | _ => .set y r

end Sys2Proof
end

