-- ==== Sys2Proof/Machine/State.lean ====
section
/-! DEFINITION. The state of the machine as plain data: the tuple of 10_state.md rule R33, grouped by the source's three
components (00_scope.md rule R1), with the session's parameters (00_scope.md rule R4) beside it; the ways a step can
stop; and the state right after reset. -/

namespace Sys2Proof.Machine

/-- The bytes of one buffer: (index, byte) pairs, indices strictly rising, no entry equal to what an unlisted index
reads as (`Memory.wf`, Machine/Memory.lean). -/
abbrev Memory := List Host.Cell

/-- Running or halted (10_state.md rule R19). -/
inductive RunState where
  | running
  | halted
  deriving DecidableEq, Repr

/-- The in-progress marker of the I/O dispatch (10_state.md rule R23). -/
inductive Guard where
  | idle
  | dispatching
  deriving DecidableEq, Repr

/-- The banking scheme (10_state.md rule R26, 20_memory.md rule R70). -/
inductive MbcKind where
  | none
  | mbc1
  deriving DecidableEq, Repr

/-- The interpreter's registers and control state (10_state.md rules R10 to R19). `F` and the pairs are views of these
fields (rules R11, R13), not fields of their own. -/
structure Cpu where
  /-- The accumulator `A` (rule R10). -/
  a : Byte
  b : Byte
  c : Byte
  d : Byte
  e : Byte
  h : Byte
  l : Byte
  /-- The zero flag (rule R12). -/
  fZ : Bool
  /-- The subtract flag (rule R12). -/
  fN : Bool
  /-- The half-carry flag (rule R12). -/
  fH : Bool
  /-- The carry flag (rule R12). -/
  fC : Bool
  /-- The stack pointer (rule R14). -/
  sp : Word
  /-- The program counter: the address of the next byte to fetch (rule R15). -/
  pc : Word
  /-- Interrupt servicing globally enabled (rule R17). -/
  ime : Bool
  /-- The pending enable of `EI` (rule R18). -/
  eiDelay : Bool
  /-- Running or halted (rule R19). -/
  run : RunState
  deriving DecidableEq, Repr

/-- The bank controller (10_state.md rules R26, R27). -/
structure BankController where
  /-- The banking scheme selected from `CART_TYPE` (20_memory.md rule R70). -/
  kind : MbcKind
  romBank : BitVec 7
  ramBank : BitVec 2
  ramEnable : Bool
  bankMode : BitVec 1
  /-- The external RAM, `ERAM_SIZE` bytes (rule R27). -/
  eram : Memory
  deriving DecidableEq, Repr

/-- An immutable byte array of length `len`: the cartridge ROM or the boot ROM (00_scope.md rule R4). -/
structure Image where
  len : Nat
  cells : Memory
  deriving DecidableEq, Repr

/-- The parameters of a session (00_scope.md rule R4). No step changes them; they stand in the state so that a
statement about every state is a statement for every value of them (log entry 1). -/
structure Params where
  /-- `ROM`, `ROM_LEN` bytes. -/
  rom : Image
  /-- `BOOT`, `BOOT_LEN` bytes. -/
  boot : Image
  cartType : Byte
  eramSize : Nat
  /-- `FILL` (the spec's decisions D1, D8). -/
  fill : Byte
  /-- `HC16_MASK` (the spec's decision D3). -/
  hc16Mask : Word
  deriving DecidableEq, Repr

/-- The address space (10_state.md rules R20 to R25) with its bank controller and the session's parameters. -/
structure Bus where
  wram : Memory
  vram : Memory
  oam : Memory
  /-- The I/O register file: indices 0x00 to 0x7F are the I/O window, index 0x80 is the interrupt-enable byte (rule R20). -/
  io : Memory
  hram : Memory
  booting : Bool
  vramGate : Bool
  oamGate : Bool
  guard : Guard
  /-- `handler_at`: which handler holds which index of the I/O window (rule R24), indices rising. -/
  handlerAt : List (Nat × Nat)
  serialLog : List Byte
  mbc : BankController
  params : Params
  /-- The MODEL's own counter of handler invocations: the index of the next free value (log entry 6). -/
  draws : Nat
  deriving DecidableEq, Repr

/-- The machine (10_state.md rule R33). -/
structure State where
  cpu : Cpu
  bus : Bus
  /-- The MODEL's own output field: the cycle cost the last step that ended in a next state returned
  (30_encoding.md rule R108, log entry 7). Nothing reads it. -/
  cost : Nat
  deriving DecidableEq, Repr

/-- Why a step has no next state (60_exceptions.md rule R270: a closed list). -/
inductive Fault where
  /-- Raised by the eleven unassigned rows of the opcode table, with the opcode byte and the address it was fetched
  from (30_encoding.md rule R105). Safe: the spec's machine has no next state here either. -/
  | illegalOpcode (op : Byte) (addr : Word)
  /-- Raised by nothing: every 16-bit address lies in a region (20_memory.md rule R54); it stands here because rule
  R270 lists it. Safe. -/
  | unmappedAddress (addr : Word)
  deriving DecidableEq, Repr

/-- Why the model gives an instruction no meaning. -/
inductive Refusal where
  /-- Raised by an arm of `exec` whose instruction has no meaning yet; no arm is left that raises it. Safe. -/
  | notModelled (mnemonic : String)
  deriving DecidableEq, Repr

/-- The outcome of an instruction or a step (60_exceptions.md rules R270, R274). -/
abbrev Result := Host.Outcome State Fault Refusal

/-- The registers after `reset()` (10_state.md rule R31). -/
def Cpu.reset : Cpu where
  a := 0
  b := 0
  c := 0
  d := 0
  e := 0
  h := 0
  l := 0
  fZ := false
  fN := false
  fH := false
  fC := false
  sp := 0
  pc := 0
  ime := false
  eiDelay := false
  run := .running

/-- The parameters of the session constructed with every parameter empty (95_test_vectors.md vector Z1; log entry 1). -/
def Params.empty : Params where
  rom := ⟨0, []⟩
  boot := ⟨0, []⟩
  cartType := Config.cartTypeDefault
  eramSize := 0
  fill := Config.fillDefault
  hc16Mask := Config.hc16MaskDefault

/-- The machine right after reset: construction with every parameter empty, then `reset()` (10_state.md rule R31,
95_test_vectors.md vector Z1). -/
def State.reset : State where
  cpu := Cpu.reset
  bus :=
    { wram := []
      vram := []
      oam := []
      io := []
      hram := []
      booting := true
      vramGate := true
      oamGate := true
      guard := .idle
      handlerAt := []
      serialLog := []
      mbc := { kind := .none, romBank := 1, ramBank := 0, ramEnable := false, bankMode := 0, eram := [] }
      params := Params.empty
      draws := 0 }
  cost := 0

end Sys2Proof.Machine
end

