-- ==== Sys2Proof/Machine/Memory.lean ====
section
/-! DEFINITION. Byte buffers as canonical lists of cells (10_state.md rule R20): reading, writing, and the form every
operation keeps. -/

namespace Sys2Proof.Machine

/-- What an unlisted index of a buffer reads as: `reset()` zeroes the buffers (10_state.md rule R31), an absent
persisted image zero-fills the external RAM (20_memory.md rule R84). -/
def unlistedByte : Byte := 0x00

/-- The byte at index `i` of a buffer. -/
def readCell : Memory → Nat → Byte
  | [], _ => unlistedByte
  | (k, v) :: rest, i => if k = i then v else readCell rest i

/-- A buffer without index `i`. -/
def eraseCell (m : Memory) (i : Nat) : Memory := m.filter fun cell => decide (cell.1 ≠ i)

/-- A cell put before the first cell of a higher index. -/
def insertCell (i : Nat) (v : Byte) : Memory → Memory
  | [] => [(i, v)]
  | (k, w) :: rest => if i < k then (i, v) :: (k, w) :: rest else (k, w) :: insertCell i v rest

/-- A buffer with the byte at index `i` set; the byte an unlisted index reads as removes the entry. -/
def writeCell (m : Memory) (i : Nat) (v : Byte) : Memory :=
  if v = unlistedByte then eraseCell m i else insertCell i v (eraseCell m i)

/-- The buffer that holds the bytes of a list from index `i` on. -/
def cellsFrom : Nat → List Byte → Memory
  | _, [] => []
  | i, v :: rest => if v = unlistedByte then cellsFrom (i + 1) rest else (i, v) :: cellsFrom (i + 1) rest

/-- The first `size` bytes of a buffer as a byte array. -/
def bufferBytes (m : Memory) (size : Nat) : Vector Byte size := Vector.ofFn fun k => readCell m k

/-- The canonical form: indices strictly rising, no entry equal to what an unlisted index reads as. -/
abbrev Memory.wf (m : Memory) : Prop :=
  m.Pairwise (fun x y => x.1 < y.1) ∧ ∀ cell ∈ m, cell.2 ≠ unlistedByte

/-- Every listed index is below `size`. -/
abbrev Memory.within (m : Memory) (size : Nat) : Prop := ∀ cell ∈ m, cell.1 < size

/-- A buffer of `size` bytes in canonical form. -/
abbrev Memory.buffer (m : Memory) (size : Nat) : Prop := Memory.wf m ∧ Memory.within m size

end Sys2Proof.Machine
end

