-- ==== Sys2Proof/Machine/Bus.lean ====
section
/-! DEFINITION. The address space and the bank controller (20_memory.md): the router, the region rules, the I/O window
with its handler dispatch, the bank-control writes. `Bus.read` is `MemRead(addr, 1)` and `Bus.write` is
`MemWrite(addr, 1, v)`. -/

namespace Sys2Proof.Machine

/-! ### The address map (20_memory.md rule R40) -/

/-- Where an address goes: the row of the map of 20_memory.md rule R40, with the index into its storage (for the ROM
range the address itself). -/
inductive Region where
  | rom (a : Nat)
  | vram (i : Nat)
  | eram (i : Nat)
  | wram (i : Nat)
  | echo (i : Nat)
  | oam (i : Nat)
  | unusable
  | io (i : Nat)
  | hram (i : Nat)
  | interruptEnable
  deriving DecidableEq, Repr

/-- The router (20_memory.md rules R40 to R42). -/
def route (addr : Word) : Region :=
  let a := addr.toNat
  if a < 0x8000 then .rom a
  else if a < 0xA000 then .vram (a - 0x8000)
  else if a < 0xC000 then .eram (a - 0xA000)
  else if a < 0xE000 then .wram (a - 0xC000)
  else if a < 0xFE00 then .echo (a - 0xE000)
  else if a < 0xFEA0 then .oam (a - 0xFE00)
  else if a < 0xFF00 then .unusable
  else if a < 0xFF80 then .io (a - 0xFF00)
  else if a < 0xFFFF then .hram (a - 0xFF80)
  else .interruptEnable

/-- The index of `SB` in the I/O register file (10_state.md rule R28). -/
def ioSerialData : Nat := 0x01

/-- The index of `SC` (10_state.md rule R28). -/
def ioSerialControl : Nat := 0x02

/-- The index of `IF` (10_state.md rule R28). -/
def ioInterruptFlag : Nat := 0x0F

/-- The index of the boot-mode register (10_state.md rule R28). -/
def ioBootMode : Nat := 0x50

/-- The index of the interrupt-enable byte (10_state.md rule R20). -/
def ioInterruptEnable : Nat := 0x80

/-- The bus address of `IF` (10_state.md rule R28). -/
def addrInterruptFlag : Word := 0xFF0F

/-- The bus address of `IE` (10_state.md rule R28). -/
def addrInterruptEnable : Word := 0xFFFF

/-! ### The bank controller (20_memory.md rules R70 to R79, R83) -/

/-- `RomByte(off)` (20_memory.md rule R83). -/
def romByte (p : Params) (off : Nat) : Byte :=
  if p.rom.len = 0 then p.fill else readCell p.rom.cells (off % p.rom.len)

/-- A read of the ROM range at `a` without the overlay: the fixed window below 0x4000 (20_memory.md rule R71), the
switchable window above (rule R72). -/
def cartridgeRead (p : Params) (m : BankController) (a : Nat) : Byte :=
  if a < 0x4000 then romByte p a else romByte p (m.romBank.toNat * 0x4000 + (a - 0x4000))

/-- A read of the ROM range (20_memory.md rules R43, R44): the boot overlay on the lowest 256 bytes while `booting`. -/
def romRangeRead (b : Bus) (a : Nat) : Byte :=
  if b.booting ∧ a ≤ 0x00FF then
    if a < b.params.boot.len then readCell b.params.boot.cells a else b.params.fill
  else cartridgeRead b.params b.mbc a

/-- A control write of the banked scheme (20_memory.md rules R74 to R77). -/
def mbc1Control (m : BankController) (a : Nat) (v : Byte) : BankController :=
  if a < 0x2000 then { m with ramEnable := v.extractLsb' 0 4 == 0xA }
  else if a < 0x4000 then
    let lo : BitVec 5 := v.extractLsb' 0 5
    let lo := if lo = 0 then 1 else lo
    { m with romBank := (m.romBank &&& 0x60) ||| lo.zeroExtend 7 }
  else if a < 0x6000 then
    let hi : BitVec 2 := v.extractLsb' 0 2
    if m.bankMode = 0 then { m with romBank := (m.romBank &&& 0x1F) ||| (hi.zeroExtend 7 <<< 5) }
    else { m with ramBank := hi }
  else { m with bankMode := v.extractLsb' 0 1 }

/-- A write to the ROM range (20_memory.md rules R45, R73 to R77). -/
def bankControl (m : BankController) (a : Nat) (v : Byte) : BankController :=
  match m.kind with
  | .none => m
  | .mbc1 => mbc1Control m a v

/-- The external-RAM index of offset `i` of the window (20_memory.md rules R78, R79). -/
def eramIndex (p : Params) (m : BankController) (i : Nat) : Nat := (m.ramBank.toNat * 0x2000 + i) % p.eramSize

/-- A read of the external-RAM window (20_memory.md rule R78). -/
def eramRead (p : Params) (m : BankController) (i : Nat) : Byte :=
  if !m.ramEnable || p.eramSize == 0 then p.fill else readCell m.eram (eramIndex p m i)

/-- A write to the external-RAM window (20_memory.md rule R79). -/
def eramWrite (p : Params) (m : BankController) (i : Nat) (v : Byte) : BankController :=
  if m.ramEnable && p.eramSize != 0 then { m with eram := writeCell m.eram (eramIndex p m i) v } else m

/-! ### Accesses with no handler (20_memory.md rules R43 to R53, R59 to R61) -/

/-- A read that forwards to no handler: every region outside the I/O window by its rule, the I/O window from its raw
storage (20_memory.md rules R43 to R53, R56, R59). -/
def Bus.rawRead (b : Bus) (addr : Word) : Byte :=
  match route addr with
  | .rom a => romRangeRead b a
  | .vram i => if b.vramGate then readCell b.vram i else b.params.fill
  | .eram i => eramRead b.params b.mbc i
  | .wram i => readCell b.wram i
  | .echo i => readCell b.wram i
  | .oam i => if b.oamGate then readCell b.oam i else b.params.fill
  | .unusable => 0x00
  | .io i => readCell b.io i
  | .hram i => readCell b.hram i
  | .interruptEnable => readCell b.io ioInterruptEnable

/-- The two address-keyed side effects of a write to index `i` of the I/O window (20_memory.md rules R57, R60, R61):
a write to `SC` appends the raw byte of `SB` to the serial log, a nonzero write to the boot-mode register clears the
boot latch. -/
def Bus.ioSideEffects (b : Bus) (i : Nat) (v : Byte) : Bus :=
  { b with
    serialLog := if i = ioSerialControl then b.serialLog ++ [readCell b.io ioSerialData] else b.serialLog
    booting := if i = ioBootMode ∧ v ≠ 0 then false else b.booting }

/-- A write that forwards to no handler (20_memory.md rules R45 to R53, R57, R59). -/
def Bus.rawWrite (b : Bus) (addr : Word) (v : Byte) : Bus :=
  match route addr with
  | .rom a => { b with mbc := bankControl b.mbc a v }
  | .vram i => if b.vramGate then { b with vram := writeCell b.vram i v } else b
  | .eram i => { b with mbc := eramWrite b.params b.mbc i v }
  | .wram i => { b with wram := writeCell b.wram i v }
  | .echo i => { b with wram := writeCell b.wram i v }
  | .oam i => if b.oamGate then { b with oam := writeCell b.oam i v } else b
  | .unusable => b
  | .io i => { b.ioSideEffects i v with io := writeCell b.io i v }
  | .hram i => { b with hram := writeCell b.hram i v }
  | .interruptEnable => { b with io := writeCell b.io ioInterruptEnable v }

/-! ### Handler dispatch (20_memory.md rules R56 to R59) -/

/-- The handler that holds index `i` of the I/O window (10_state.md rule R24). -/
def handlerHolding : List (Nat × Nat) → Nat → Option Nat
  | [], _ => none
  | (k, h) :: rest, i => if k = i then some h else handlerHolding rest i

/-- The handler an access to `addr` is forwarded to: the one registered for that exact address, while the guard is
idle (20_memory.md rules R56, R57). -/
def Bus.forwardsTo (b : Bus) (addr : Word) : Option Nat :=
  match route addr with
  | .io i => if b.guard = .idle then handlerHolding b.handlerAt i else none
  | _ => none

/-- One handler invocation's course on the bus: its nested accesses bypass handler forwarding (20_memory.md rule
R59). Answers the byte the handler returns and the bus it leaves. -/
def runHandler : HandlerRun → Bus → Byte × Bus
  | .done v, b => (v, b)
  | .read addr next, b => runHandler (next (b.rawRead addr)) b
  | .write addr v next, b => runHandler next (b.rawWrite addr v)

/-- One handler invocation under the guard (20_memory.md rule R58); `draws` counts it (log entry 6). -/
def Bus.invoke (b : Bus) (course : HandlerRun) : Byte × Bus :=
  let r := runHandler course { b with guard := .dispatching, draws := b.draws + 1 }
  (r.1, { r.2 with guard := .idle })

/-- `MemRead(addr, 1)` (20_memory.md rules R41, R56): the byte, and the bus after it (changed only by a handler). -/
def Bus.read (b : Bus) (addr : Word) : Byte × Bus :=
  match b.forwardsTo addr with
  | some h => b.invoke (Config.handlerRead h addr b.draws)
  | none => (b.rawRead addr, b)

/-- The side effects of a forwarded write, which precede the forward (20_memory.md rule R57). -/
def Bus.writeSideEffects (b : Bus) (addr : Word) (v : Byte) : Bus :=
  match route addr with
  | .io i => b.ioSideEffects i v
  | _ => b

/-- `MemWrite(addr, 1, v)` (20_memory.md rules R42, R57). -/
def Bus.write (b : Bus) (addr : Word) (v : Byte) : Bus :=
  match b.forwardsTo addr with
  | some h => ((b.writeSideEffects addr v).invoke (Config.handlerWrite h addr v b.draws)).2
  | none => b.rawWrite addr v

end Sys2Proof.Machine
end

