-- ==== Sys2Proof/Machine/Ops.lean ====
section
/-! DEFINITION. The named operations over registers and the bus: register views, packed flags, fetching, the stack, and
taking an interrupt with the return from one beside it (00_scope.md rule R7). -/

namespace Sys2Proof.Machine

/-! ### Registers (10_state.md rules R10 to R13) -/

/-- `x[r]` (00_scope.md rule R7). -/
def Cpu.reg (s : Cpu) : Reg8 → Byte
  | .b => s.b
  | .c => s.c
  | .d => s.d
  | .e => s.e
  | .h => s.h
  | .l => s.l
  | .a => s.a

/-- `x[r] <- v` (00_scope.md rule R7). -/
def Cpu.setReg (s : Cpu) (r : Reg8) (v : Byte) : Cpu :=
  match r with
  | .b => { s with b := v }
  | .c => { s with c := v }
  | .d => { s with d := v }
  | .e => { s with e := v }
  | .h => { s with h := v }
  | .l => { s with l := v }
  | .a => { s with a := v }

/-- The view `BC` (10_state.md rule R11). -/
def Cpu.bc (s : Cpu) : Word := s.b ++ s.c

/-- The view `DE` (10_state.md rule R11). -/
def Cpu.de (s : Cpu) : Word := s.d ++ s.e

/-- The view `HL` (10_state.md rule R11). -/
def Cpu.hl (s : Cpu) : Word := s.h ++ s.l

/-- `BC <- v` (10_state.md rule R11). -/
def Cpu.setBc (s : Cpu) (v : Word) : Cpu := { s with b := highByte v, c := lowByte v }

/-- `DE <- v` (10_state.md rule R11). -/
def Cpu.setDe (s : Cpu) (v : Word) : Cpu := { s with d := highByte v, e := lowByte v }

/-- `HL <- v` (10_state.md rule R11). -/
def Cpu.setHl (s : Cpu) (v : Word) : Cpu := { s with h := highByte v, l := lowByte v }

/-- `xx[rr]` for arithmetic and `LD rr,d16` (30_encoding.md rule R102). -/
def Cpu.pair (s : Cpu) : Pair → Word
  | .bc => s.bc
  | .de => s.de
  | .hl => s.hl
  | .sp => s.sp

/-- `xx[rr] <- v` (30_encoding.md rule R102). -/
def Cpu.setPair (s : Cpu) (rr : Pair) (v : Word) : Cpu :=
  match rr with
  | .bc => s.setBc v
  | .de => s.setDe v
  | .hl => s.setHl v
  | .sp => { s with sp := v }

/-- `Pack(fZ, fN, fH, fC)` (10_state.md rule R13). -/
def packFlags (z n h c : Bool) : Byte :=
  BitVec.ofBool z ++ BitVec.ofBool n ++ BitVec.ofBool h ++ BitVec.ofBool c ++ 0#4

/-- A read of `F` (10_state.md rule R13). -/
def Cpu.f (s : Cpu) : Byte := packFlags s.fZ s.fN s.fH s.fC

/-- `F <- b`, that is `Unpack(b)` (10_state.md rule R13). -/
def Cpu.setF (s : Cpu) (b : Byte) : Cpu :=
  { s with fZ := b.getLsbD 7, fN := b.getLsbD 6, fH := b.getLsbD 5, fC := b.getLsbD 4 }

/-- The view `AF` (10_state.md rule R11). -/
def Cpu.af (s : Cpu) : Word := s.a ++ s.f

/-- `AF <- v` (10_state.md rule R11). -/
def Cpu.setAf (s : Cpu) (v : Word) : Cpu := { s with a := highByte v }.setF (lowByte v)

/-- `xx[qq]` of `PUSH` and `POP` (30_encoding.md rule R102). -/
def Cpu.stackPair (s : Cpu) : StackPair → Word
  | .bc => s.bc
  | .de => s.de
  | .hl => s.hl
  | .af => s.af

/-- `xx[qq] <- v` of `POP` (41_load16_stack.md rules R145, R146). -/
def Cpu.setStackPair (s : Cpu) (qq : StackPair) (v : Word) : Cpu :=
  match qq with
  | .bc => s.setBc v
  | .de => s.setDe v
  | .hl => s.setHl v
  | .af => s.setAf v

/-- All four flags written (10_state.md rule R12). -/
def Cpu.setFlags (s : Cpu) (z n h c : Bool) : Cpu := { s with fZ := z, fN := n, fH := h, fC := c }

/-! ### Values (00_scope.md rule R6) -/

/-- `sext_16(b)`. -/
def sext16 (b : Byte) : Word := b.signExtend 16

/-- The high-page address `0xFF00 + zext_16(n)` (30_encoding.md rule R103). -/
def highPage (n : Byte) : Word := 0xFF00 + n.zeroExtend 16

/-! ### Bus accesses of the interpreter (00_scope.md rule R7) -/

/-- `MemRead(addr, 1)`: the byte and the machine after the read. -/
def State.read (s : State) (addr : Word) : Byte × State :=
  let r := s.bus.read addr
  (r.1, { s with bus := r.2 })

/-- `MemWrite(addr, 1, v)`. -/
def State.write (s : State) (addr : Word) (v : Byte) : State := { s with bus := s.bus.write addr v }

/-- `Fetch8()` (30_encoding.md rule R101). -/
def State.fetch8 (s : State) : Byte × State :=
  let r := s.read s.cpu.pc
  (r.1, { r.2 with cpu := { r.2.cpu with pc := r.2.cpu.pc + 1 } })

/-- `Fetch16()` (30_encoding.md rule R103). -/
def State.fetch16 (s : State) : Word × State :=
  let lo := s.fetch8
  let hi := lo.2.fetch8
  (imm16 lo.1 hi.1, hi.2)

/-- Fetch and decode of one whole instruction (30_encoding.md rules R101, R104): the opcode byte selects the row, the
row says which bytes follow, the program counter ends after the last byte fetched. Every instruction fetches its
operand bytes before any other access of its own (30_encoding.md rule R103), so they are fetched here. -/
def State.fetchInstr (s : State) : Instr × State :=
  let op := s.fetch8
  match primaryRow op.1 with
  | .one i => (i, op.2)
  | .imm8 f =>
    let b := op.2.fetch8
    (f b.1, b.2)
  | .imm16 f =>
    let w := op.2.fetch16
    (f w.1, w.2)
  | .escape =>
    let op2 := op.2.fetch8
    (secondaryRow op2.1, op2.2)

/-! ### The stack (41_load16_stack.md rules R148, R149) -/

/-- `SP <- SP - 1; MemWrite(SP, 1, v)`. -/
def State.pushByte (s : State) (v : Byte) : State :=
  { s with cpu := { s.cpu with sp := s.cpu.sp - 1 } }.write (s.cpu.sp - 1) v

/-- `Push16(v)`: the high byte first (41_load16_stack.md rule R148). -/
def State.push16 (s : State) (v : Word) : State := (s.pushByte (highByte v)).pushByte (lowByte v)

/-- `MemRead(SP, 1); SP <- SP + 1`. -/
def State.popByte (s : State) : Byte × State :=
  let r := s.read s.cpu.sp
  (r.1, { r.2 with cpu := { r.2.cpu with sp := r.2.cpu.sp + 1 } })

/-- `Pop16()`: the low byte first (41_load16_stack.md rule R149). -/
def State.pop16 (s : State) : Word × State :=
  let lo := s.popByte
  let hi := lo.2.popByte
  (imm16 lo.1 hi.1, hi.2)

/-! ### Ending an instruction -/

/-- A next state with these registers, the bus as it is, and the cost returned (30_encoding.md rule R108). -/
def State.done (s : State) (cpu : Cpu) (cost : Nat) : Result := .next { s with cpu := cpu, cost := cost }

/-- A jump: `PC <- target` (00_scope.md rule R7). -/
def State.jump (s : State) (target : Word) (cost : Nat) : Result := s.done { s.cpu with pc := target } cost

/-! ### Interrupts (60_exceptions.md rules R272 to R278) -/

/-- The number of the lowest set bit of the five interrupt bits (60_exceptions.md rule R277). -/
def lowestSource (pend : Byte) : Nat :=
  if pend.getLsbD 0 then 0
  else if pend.getLsbD 1 then 1
  else if pend.getLsbD 2 then 2
  else if pend.getLsbD 3 then 3
  else 4

/-- The vector of source `n` (60_exceptions.md rule R272). -/
def interruptVector (n : Nat) : Word := BitVec.ofNat 16 (0x0040 + 8 * n)

/-- The acknowledge value `f & ~(1 << n)` (60_exceptions.md rule R276). -/
def acknowledge (f : Byte) (n : Nat) : Byte := f &&& ~~~((1 : Byte) <<< n)

/-- TAKING AN INTERRUPT, `Dispatch(n, f)` (60_exceptions.md rule R276): acknowledge through the bus, `IME` false, the
program counter pushed, the vector taken, cost 20. -/
def State.takeInterrupt (s : State) (n : Nat) (f : Byte) : State :=
  let s := s.write addrInterruptFlag (acknowledge f n)
  let s := { s with cpu := { s.cpu with ime := false } }
  let s := s.push16 s.cpu.pc
  { s with cpu := { s.cpu with pc := interruptVector n }, cost := 20 }

/-- RETURNING FROM AN INTERRUPT (45_control.md rule R239): the program counter popped, `IME` true at once, no enable
pending. -/
def State.returnFromInterrupt (s : State) : State :=
  let r := s.pop16
  { r.2 with cpu := { r.2.cpu with pc := r.1, ime := true, eiDelay := false } }

/-- The interrupt test at the head of a step (60_exceptions.md rules R274, R275): `IE` then `IF` read through the bus;
answers the pending enabled bits, the `IF` byte read, and the machine after the two reads. -/
def State.interruptTest (s : State) : Byte × Byte × State :=
  let e := s.read addrInterruptEnable
  let f := e.2.read addrInterruptFlag
  (e.1 &&& f.1 &&& 0x1F, f.1, f.2)

/-- The end of an instruction step (60_exceptions.md rule R274): an enable pending before the instruction (`arm`) and
still pending after it takes effect. -/
def State.settleEnable (arm : Bool) (s : State) : State :=
  if arm && s.cpu.eiDelay then { s with cpu := { s.cpu with ime := true, eiDelay := false } } else s

/-- What a step does before it executes an instruction (60_exceptions.md rules R273, R274): either it has a next state
without executing one (idle while halted, or an interrupt taken), or it goes on in the state given. -/
def State.beginStep (s : State) : State ⊕ State :=
  let t := s.interruptTest
  let s := t.2.2
  if s.cpu.run = .halted ∧ t.1 = 0 then .inl { s with cost := 4 }
  else
    let s := { s with cpu := { s.cpu with run := .running } }
    if s.cpu.ime ∧ t.1 ≠ 0 then .inl (s.takeInterrupt (lowestSource t.1) t.2.1) else .inr s

/-! ### Placing an instruction where the next fetch reads it (for `State.withFetchWord`) -/

/-- An image of at least `n` bytes: bytes past its end hold what `pad` gives for their index. -/
def Image.grow (img : Image) (pad : Nat → Byte) (n : Nat) : Image :=
  if n ≤ img.len then img
  else
    { len := n
      cells := (List.range' img.len (n - img.len)).foldl (fun m i => writeCell m i (pad i)) img.cells }

/-- An image with the byte at index `i` set, grown to hold it. -/
def Image.put (img : Image) (pad : Nat → Byte) (i : Nat) (v : Byte) : Image :=
  let img := img.grow pad (i + 1)
  { img with cells := writeCell img.cells i v }

/-- The ROM byte at offset `off` set (the ROM grown to hold it, its bytes reading as before up to there). -/
def Params.putRom (p : Params) (off : Nat) (v : Byte) : Params := { p with rom := p.rom.put (romByte p) off v }

/-- The bus with the byte a fetch at `addr` reads set to `v`: stored in the storage behind the address, whatever
region that is, with what keeps the fetch from reading it taken away (a closed gate, a disabled external RAM, a
handler's claim). The unusable region has no storage (20_memory.md rule R51). -/
def Bus.plant (b : Bus) (addr : Word) (v : Byte) : Bus :=
  match route addr with
  | .rom a =>
    if b.booting ∧ a ≤ 0x00FF then
      { b with params := { b.params with boot := b.params.boot.put (fun _ => b.params.fill) a v } }
    else if a < 0x4000 then { b with params := b.params.putRom a v }
    else { b with params := b.params.putRom (b.mbc.romBank.toNat * 0x4000 + (a - 0x4000)) v }
  | .vram i => { b with vramGate := true, vram := writeCell b.vram i v }
  | .eram i =>
    let p := if b.params.eramSize = 0 then { b.params with eramSize := 0x2000 } else b.params
    { b with params := p, mbc := { b.mbc with ramEnable := true, eram := writeCell b.mbc.eram (eramIndex p b.mbc i) v } }
  | .wram i => { b with wram := writeCell b.wram i v }
  | .echo i => { b with wram := writeCell b.wram i v }
  | .oam i => { b with oamGate := true, oam := writeCell b.oam i v }
  | .unusable => b
  | .io i => { b with io := writeCell b.io i v, handlerAt := b.handlerAt.filter fun claim => decide (claim.1 ≠ i) }
  | .hram i => { b with hram := writeCell b.hram i v }
  | .interruptEnable => { b with io := writeCell b.io ioInterruptEnable v }

/-- The machine with a byte sequence where the next fetches read it. -/
def State.plantBytes (s : State) : Word → List Byte → State
  | _, [] => s
  | addr, v :: rest => ({ s with bus := s.bus.plant addr v } : State).plantBytes (addr + 1) rest

/-- The machine made to fetch an instruction in its next step: running, and with `IME` false if an enabled interrupt
is pending (a handler on `IF` taken off, so that the test reads the stored byte). -/
def State.readyToFetch (s : State) : State :=
  let claims := s.bus.handlerAt.filter fun claim => decide (claim.1 ≠ ioInterruptFlag)
  let pend := readCell s.bus.io ioInterruptEnable &&& readCell s.bus.io ioInterruptFlag &&& 0x1F
  { s with
    cpu := { s.cpu with run := .running, ime := s.cpu.ime && pend == 0 }
    bus := { s.bus with handlerAt := claims } }

end Sys2Proof.Machine
end

