-- ==== Sys2Proof/Machine/Operands.lean ====
section
/-! DEFINITION. The operand forms of the instructions (00_scope.md rule R7, 30_encoding.md rules R102, R103) and the
condition of the conditional control transfers (45_control.md rule R240). -/

namespace Sys2Proof.Machine

/-- `Op8(i)` (00_scope.md rule R7): a register, or `MemRead(HL, 1)`. -/
def State.readOpnd (s : State) : Opnd8 → Byte × State
  | .reg r => (s.cpu.reg r, s)
  | .memHl => s.read s.cpu.hl

/-- `SetOp8(i, v)` (00_scope.md rule R7): a register, or `MemWrite(HL, 1, v)`. -/
def State.writeOpnd (s : State) (o : Opnd8) (v : Byte) : State :=
  match o with
  | .reg r => { s with cpu := s.cpu.setReg r v }
  | .memHl => s.write s.cpu.hl v

/-- The operand of an 8-bit arithmetic or logic instruction (42_alu8.md section 2). -/
def State.readSrc (s : State) : AluSrc → Byte × State
  | .opnd o => s.readOpnd o
  | .imm d8 => (d8, s)

/-- The cost of an instruction with a register form and an `(HL)` form. -/
def opndCost (o : Opnd8) (register memory : Nat) : Nat :=
  match o with
  | .reg _ => register
  | .memHl => memory

/-- The address of a pointer operand (30_encoding.md rule R103). -/
def Cpu.ptrAddr (s : Cpu) : Ptr → Word
  | .bc => s.bc
  | .de => s.de
  | .hlInc => s.hl
  | .hlDec => s.hl

/-- What a pointer operand does to its pair after the access (40_load8.md rules R134 to R137). -/
def Cpu.ptrAfter (s : Cpu) : Ptr → Cpu
  | .bc => s
  | .de => s
  | .hlInc => s.setHl (s.hl + 1)
  | .hlDec => s.setHl (s.hl - 1)

/-- `Cond(cc)` (45_control.md rule R240). -/
def Cpu.cond (s : Cpu) : Cond → Bool
  | .nz => !s.fZ
  | .z => s.fZ
  | .nc => !s.fC
  | .c => s.fC

end Sys2Proof.Machine
end

