-- ==== Sys2Proof/Machine/Flags.lean ====
section
/-! DEFINITION. The flag computations: the arithmetic functions of 42_alu8.md and 43_alu16.md, the rotates and shifts of
44_rotate_shift_bit.md, the decimal correction. Each computes on integers and narrows at the end, as the rules do. -/

namespace Sys2Proof.Machine

/-- A result with the flags computed from it (42_alu8.md rules R183, R184). -/
structure Flagged where
  r : Byte
  z : Bool
  h : Bool
  c : Bool
  deriving DecidableEq, Repr

/-- `v[3:0]` as an integer. -/
def lowNibble (v : Byte) : Nat := v.toNat % 16

/-- `Add8(a, v, cin)` (42_alu8.md rule R183). -/
def add8 (a v : Byte) (cin : Bool) : Flagged :=
  let s := a.toNat + v.toNat + cin.toNat
  let r := BitVec.ofNat 8 s
  { r := r, z := r == 0, h := decide (lowNibble a + lowNibble v + cin.toNat > 0xF), c := decide (s > 0xFF) }

/-- `Sub8(a, v, cin)` (42_alu8.md rule R184). -/
def sub8 (a v : Byte) (cin : Bool) : Flagged :=
  let d : Int := (a.toNat : Int) - v.toNat - cin.toNat
  let r := BitVec.ofInt 8 d
  { r := r, z := r == 0, h := decide (lowNibble a < lowNibble v + cin.toNat),
    c := decide (a.toNat < v.toNat + cin.toNat) }

/-- A result whose only computed flag is `fZ`, with `fH` and `fC` constants (42_alu8.md rules R167 to R175). -/
def logic8 (r : Byte) (h : Bool) : Flagged := { r := r, z := r == 0, h := h, c := false }

/-- The result and flags of an 8-bit arithmetic or logic operation on `A` (42_alu8.md section 2). -/
def aluCompute (op : AluOp) (a v : Byte) (carry : Bool) : Flagged :=
  match op with
  | .add => add8 a v false
  | .adc => add8 a v carry
  | .sub => sub8 a v false
  | .sbc => sub8 a v carry
  | .and => logic8 (a &&& v) true
  | .xor => logic8 (a ^^^ v) false
  | .or => logic8 (a ||| v) false
  | .cp => sub8 a v false

/-- The constant the operation writes into `fN` (10_state.md rule R16). -/
def aluSubtracts : AluOp → Bool
  | .add => false
  | .adc => false
  | .sub => true
  | .sbc => true
  | .and => false
  | .xor => false
  | .or => false
  | .cp => true

/-- The operation writes its result into `A`: all but `CP` (42_alu8.md rule R176). -/
def aluWritesA : AluOp → Bool
  | .add => true
  | .adc => true
  | .sub => true
  | .sbc => true
  | .and => true
  | .xor => true
  | .or => true
  | .cp => false

/-- The result and the carry of a rotate or shift of `v` with the carry `c` on entry (44_rotate_shift_bit.md rules R204
to R219). -/
def shiftCompute (op : ShiftOp) (v : Byte) (c : Bool) : Byte × Bool :=
  let up (bit0 : Bool) : Byte := v.extractLsb' 0 7 ++ BitVec.ofBool bit0
  let down (bit7 : Bool) : Byte := BitVec.ofBool bit7 ++ v.extractLsb' 1 7
  match op with
  | .rlc => (up (v.getLsbD 7), v.getLsbD 7)
  | .rrc => (down (v.getLsbD 0), v.getLsbD 0)
  | .rl => (up c, v.getLsbD 7)
  | .rr => (down c, v.getLsbD 0)
  | .sla => (up false, v.getLsbD 7)
  | .sra => (down (v.getLsbD 7), v.getLsbD 0)
  | .swap => (v.extractLsb' 0 4 ++ v.extractLsb' 4 4, false)
  | .srl => (down false, v.getLsbD 0)

/-- The rotate a primary rotate of `A` computes (44_rotate_shift_bit.md rules R200 to R203). -/
def rotShift : RotOp → ShiftOp
  | .rlc => .rlc
  | .rrc => .rrc
  | .rl => .rl
  | .rr => .rr

/-- `1 << b` on 8 bits (44_rotate_shift_bit.md rules R222 to R225). -/
def bitMask (b : BitVec 3) : Byte := (1 : Byte) <<< b.toNat

/-- `fH` and `fC` of the 16-bit add (43_alu16.md rule R190), with the half-carry at `mask`. -/
def addHlHalf (mask a v : Word) : Bool := decide ((a &&& mask).toNat + (v &&& mask).toNat > mask.toNat)

/-- `fC` of the 16-bit add (43_alu16.md rule R190). -/
def addHlCarry (a v : Word) : Bool := decide (a.toNat + v.toNat > 0xFFFF)

/-- `fH` of the stack-pointer-relative add (43_alu16.md rule R193). -/
def addSpHalf (sp : Word) (n : Byte) : Bool := decide (sp.toNat % 16 + n.toNat % 16 > 0xF)

/-- `fC` of the stack-pointer-relative add, the operand taken as unsigned (43_alu16.md rule R193). -/
def addSpCarry (sp : Word) (n : Byte) : Bool := decide (sp.toNat % 256 + n.toNat > 0xFF)

/-- The adjustment of `DAA` after an addition: the amount and the carry (42_alu8.md rule R185). -/
def daaAfterAdd (a : Byte) (h c : Bool) : Byte × Bool :=
  let low : Byte := if h || decide (lowNibble a > 0x9) then 0x06 else 0x00
  let high : Bool := c || decide (a.toNat > 0x99)
  (low ||| (if high then 0x60 else 0x00), high)

/-- The adjustment of `DAA` after a subtraction (42_alu8.md rule R185). -/
def daaAfterSub (h c : Bool) : Byte := (if h then 0x06 else 0x00) ||| (if c then 0x60 else 0x00)

/-- The result and the carry of `DAA` (42_alu8.md rule R185). -/
def daaResult (a : Byte) (n h c : Bool) : Byte × Bool :=
  if n then (a - daaAfterSub h c, c)
  else
    let adj := daaAfterAdd a h c
    (a + adj.1, adj.2)

end Sys2Proof.Machine
end

