-- ==== Sys2Proof/Machine/Alu16.lean ====
section
/-! DEFINITION. 16-bit arithmetic (43_alu16.md rules R190 to R193). -/

namespace Sys2Proof.Machine

/-- `ADD HL,rr` (43_alu16.md rule R190). -/
def addHl (rr : Pair) (s : State) : Result :=
  let a := s.cpu.hl
  let v := s.cpu.pair rr
  s.done { s.cpu.setHl (a + v) with
    fN := false, fH := addHlHalf s.bus.params.hc16Mask a v, fC := addHlCarry a v } 8

/-- `INC rr` (43_alu16.md rule R191). -/
def inc16 (rr : Pair) (s : State) : Result := s.done (s.cpu.setPair rr (s.cpu.pair rr + 1)) 8

/-- `DEC rr` (43_alu16.md rule R192). -/
def dec16 (rr : Pair) (s : State) : Result := s.done (s.cpu.setPair rr (s.cpu.pair rr - 1)) 8

/-- `ADD SP,r8` (43_alu16.md rule R193). -/
def addSp (r8 : Byte) (s : State) : Result :=
  s.done
    ({ s.cpu with sp := s.cpu.sp + sext16 r8 }.setFlags false false (addSpHalf s.cpu.sp r8) (addSpCarry s.cpu.sp r8)) 16

/-- `ADD SP,r8`, 0xE8 (43_alu16.md rule R193). -/
def execAddSpR8 (r8 : Byte) (s : State) : Result := addSp r8 s

/-- `INC BC`, 0x03 (43_alu16.md rule R191). -/
def execIncBc (s : State) : Result := inc16 .bc s

/-- `ADD HL,BC`, 0x09 (43_alu16.md rule R190). -/
def execAddHlBc (s : State) : Result := addHl .bc s

/-- `DEC BC`, 0x0B (43_alu16.md rule R192). -/
def execDecBc (s : State) : Result := dec16 .bc s

/-- `INC DE`, 0x13 (43_alu16.md rule R191). -/
def execIncDe (s : State) : Result := inc16 .de s

/-- `ADD HL,DE`, 0x19 (43_alu16.md rule R190). -/
def execAddHlDe (s : State) : Result := addHl .de s

/-- `DEC DE`, 0x1B (43_alu16.md rule R192). -/
def execDecDe (s : State) : Result := dec16 .de s

/-- `INC HL`, 0x23 (43_alu16.md rule R191). -/
def execIncHl (s : State) : Result := inc16 .hl s

/-- `ADD HL,HL`, 0x29 (43_alu16.md rule R190). -/
def execAddHlHl (s : State) : Result := addHl .hl s

/-- `DEC HL`, 0x2B (43_alu16.md rule R192). -/
def execDecHl (s : State) : Result := dec16 .hl s

/-- `INC SP`, 0x33 (43_alu16.md rule R191). -/
def execIncSp (s : State) : Result := inc16 .sp s

/-- `ADD HL,SP`, 0x39 (43_alu16.md rule R190). -/
def execAddHlSp (s : State) : Result := addHl .sp s

/-- `DEC SP`, 0x3B (43_alu16.md rule R192). -/
def execDecSp (s : State) : Result := dec16 .sp s

end Sys2Proof.Machine
end

