-- ==== Sys2Proof/Machine/Alu8.lean ====
section
/-! DEFINITION. 8-bit arithmetic and logic (42_alu8.md rules R155 to R188). -/

namespace Sys2Proof.Machine

/-- The cost of an arithmetic or logic instruction by its operand (42_alu8.md section 2). -/
def aluCost (src : AluSrc) : Nat :=
  match src with
  | .opnd o => opndCost o 4 8
  | .imm _ => 8

/-- `ADD`, `ADC`, `SUB`, `SBC`, `AND`, `XOR`, `OR`, `CP` with any operand (42_alu8.md rules R155 to R178). -/
def alu (op : AluOp) (src : AluSrc) (s : State) : Result :=
  let v := s.readSrc src
  let x := aluCompute op v.2.cpu.a v.1 v.2.cpu.fC
  let cpu := v.2.cpu.setFlags x.z (aluSubtracts op) x.h x.c
  v.2.done (if aluWritesA op then { cpu with a := x.r } else cpu) (aluCost src)

/-- `INC r`, `INC (HL)` (42_alu8.md rules R179, R180). -/
def inc8 (o : Opnd8) (s : State) : Result :=
  let v := s.readOpnd o
  let r := v.1 + 1
  let t := v.2.writeOpnd o r
  t.done { t.cpu with fZ := r == 0, fN := false, fH := decide (lowNibble v.1 = 0xF) } (opndCost o 4 12)

/-- `DEC r`, `DEC (HL)` (42_alu8.md rules R181, R182). -/
def dec8 (o : Opnd8) (s : State) : Result :=
  let v := s.readOpnd o
  let r := v.1 - 1
  let t := v.2.writeOpnd o r
  t.done { t.cpu with fZ := r == 0, fN := true, fH := decide (lowNibble v.1 = 0x0) } (opndCost o 4 12)

/-- `DAA` (42_alu8.md rule R185). -/
def daa (s : State) : Result :=
  let x := daaResult s.cpu.a s.cpu.fN s.cpu.fH s.cpu.fC
  s.done { s.cpu with a := x.1, fZ := x.1 == 0, fH := false, fC := x.2 } 4

/-- `CPL` (42_alu8.md rule R186). -/
def cpl (s : State) : Result := s.done { s.cpu with a := ~~~s.cpu.a, fN := true, fH := true } 4

/-- `SCF` (42_alu8.md rule R187). -/
def scf (s : State) : Result := s.done { s.cpu with fN := false, fH := false, fC := true } 4

/-- `CCF` (42_alu8.md rule R188). -/
def ccf (s : State) : Result := s.done { s.cpu with fN := false, fH := false, fC := !s.cpu.fC } 4

/-- `ADD A,d8`, 0xC6 (42_alu8.md rule R157). -/
def execAddAD8 (d8 : Byte) (s : State) : Result := alu .add (.imm d8) s

/-- `ADC A,d8`, 0xCE (42_alu8.md rule R160). -/
def execAdcAD8 (d8 : Byte) (s : State) : Result := alu .adc (.imm d8) s

/-- `SUB d8`, 0xD6 (42_alu8.md rule R163). -/
def execSubD8 (d8 : Byte) (s : State) : Result := alu .sub (.imm d8) s

/-- `SBC A,d8`, 0xDE (42_alu8.md rule R166). -/
def execSbcAD8 (d8 : Byte) (s : State) : Result := alu .sbc (.imm d8) s

/-- `AND d8`, 0xE6 (42_alu8.md rule R169). -/
def execAndD8 (d8 : Byte) (s : State) : Result := alu .and (.imm d8) s

/-- `XOR d8`, 0xEE (42_alu8.md rule R172). -/
def execXorD8 (d8 : Byte) (s : State) : Result := alu .xor (.imm d8) s

/-- `OR d8`, 0xF6 (42_alu8.md rule R175). -/
def execOrD8 (d8 : Byte) (s : State) : Result := alu .or (.imm d8) s

/-- `CP d8`, 0xFE (42_alu8.md rule R178). -/
def execCpD8 (d8 : Byte) (s : State) : Result := alu .cp (.imm d8) s

/-- `INC B`, 0x04 (42_alu8.md rule R179). -/
def execIncB (s : State) : Result := inc8 (.reg .b) s

/-- `DEC B`, 0x05 (42_alu8.md rule R181). -/
def execDecB (s : State) : Result := dec8 (.reg .b) s

/-- `INC C`, 0x0C (42_alu8.md rule R179). -/
def execIncC (s : State) : Result := inc8 (.reg .c) s

/-- `DEC C`, 0x0D (42_alu8.md rule R181). -/
def execDecC (s : State) : Result := dec8 (.reg .c) s

/-- `INC D`, 0x14 (42_alu8.md rule R179). -/
def execIncD (s : State) : Result := inc8 (.reg .d) s

/-- `DEC D`, 0x15 (42_alu8.md rule R181). -/
def execDecD (s : State) : Result := dec8 (.reg .d) s

/-- `INC E`, 0x1C (42_alu8.md rule R179). -/
def execIncE (s : State) : Result := inc8 (.reg .e) s

/-- `DEC E`, 0x1D (42_alu8.md rule R181). -/
def execDecE (s : State) : Result := dec8 (.reg .e) s

/-- `INC H`, 0x24 (42_alu8.md rule R179). -/
def execIncH (s : State) : Result := inc8 (.reg .h) s

/-- `DEC H`, 0x25 (42_alu8.md rule R181). -/
def execDecH (s : State) : Result := dec8 (.reg .h) s

/-- `DAA`, 0x27 (42_alu8.md rule R185). -/
def execDaa (s : State) : Result := daa s

/-- `INC L`, 0x2C (42_alu8.md rule R179). -/
def execIncL (s : State) : Result := inc8 (.reg .l) s

/-- `DEC L`, 0x2D (42_alu8.md rule R181). -/
def execDecL (s : State) : Result := dec8 (.reg .l) s

/-- `CPL`, 0x2F (42_alu8.md rule R186). -/
def execCplA (s : State) : Result := cpl s

/-- `INC (HL)`, 0x34 (42_alu8.md rule R180). -/
def execIncMemHl (s : State) : Result := inc8 .memHl s

/-- `DEC (HL)`, 0x35 (42_alu8.md rule R182). -/
def execDecMemHl (s : State) : Result := dec8 .memHl s

/-- `SCF`, 0x37 (42_alu8.md rule R187). -/
def execScf (s : State) : Result := scf s

/-- `INC A`, 0x3C (42_alu8.md rule R179). -/
def execIncA (s : State) : Result := inc8 (.reg .a) s

/-- `DEC A`, 0x3D (42_alu8.md rule R181). -/
def execDecA (s : State) : Result := dec8 (.reg .a) s

/-- `CCF`, 0x3F (42_alu8.md rule R188). -/
def execCcf (s : State) : Result := ccf s

/-- `ADD A,B`, 0x80 (42_alu8.md rule R155). -/
def execAddAB (s : State) : Result := alu .add (.opnd (.reg .b)) s

/-- `ADD A,C`, 0x81 (42_alu8.md rule R155). -/
def execAddAC (s : State) : Result := alu .add (.opnd (.reg .c)) s

/-- `ADD A,D`, 0x82 (42_alu8.md rule R155). -/
def execAddAD (s : State) : Result := alu .add (.opnd (.reg .d)) s

/-- `ADD A,E`, 0x83 (42_alu8.md rule R155). -/
def execAddAE (s : State) : Result := alu .add (.opnd (.reg .e)) s

/-- `ADD A,H`, 0x84 (42_alu8.md rule R155). -/
def execAddAH (s : State) : Result := alu .add (.opnd (.reg .h)) s

/-- `ADD A,L`, 0x85 (42_alu8.md rule R155). -/
def execAddAL (s : State) : Result := alu .add (.opnd (.reg .l)) s

/-- `ADD A,(HL)`, 0x86 (42_alu8.md rule R156). -/
def execAddAMemHl (s : State) : Result := alu .add (.opnd .memHl) s

/-- `ADD A,A`, 0x87 (42_alu8.md rule R155). -/
def execAddAA (s : State) : Result := alu .add (.opnd (.reg .a)) s

/-- `ADC A,B`, 0x88 (42_alu8.md rule R158). -/
def execAdcAB (s : State) : Result := alu .adc (.opnd (.reg .b)) s

/-- `ADC A,C`, 0x89 (42_alu8.md rule R158). -/
def execAdcAC (s : State) : Result := alu .adc (.opnd (.reg .c)) s

/-- `ADC A,D`, 0x8A (42_alu8.md rule R158). -/
def execAdcAD (s : State) : Result := alu .adc (.opnd (.reg .d)) s

/-- `ADC A,E`, 0x8B (42_alu8.md rule R158). -/
def execAdcAE (s : State) : Result := alu .adc (.opnd (.reg .e)) s

/-- `ADC A,H`, 0x8C (42_alu8.md rule R158). -/
def execAdcAH (s : State) : Result := alu .adc (.opnd (.reg .h)) s

/-- `ADC A,L`, 0x8D (42_alu8.md rule R158). -/
def execAdcAL (s : State) : Result := alu .adc (.opnd (.reg .l)) s

/-- `ADC A,(HL)`, 0x8E (42_alu8.md rule R159). -/
def execAdcAMemHl (s : State) : Result := alu .adc (.opnd .memHl) s

/-- `ADC A,A`, 0x8F (42_alu8.md rule R158). -/
def execAdcAA (s : State) : Result := alu .adc (.opnd (.reg .a)) s

/-- `SUB B`, 0x90 (42_alu8.md rule R161). -/
def execSubB (s : State) : Result := alu .sub (.opnd (.reg .b)) s

/-- `SUB C`, 0x91 (42_alu8.md rule R161). -/
def execSubC (s : State) : Result := alu .sub (.opnd (.reg .c)) s

/-- `SUB D`, 0x92 (42_alu8.md rule R161). -/
def execSubD (s : State) : Result := alu .sub (.opnd (.reg .d)) s

/-- `SUB E`, 0x93 (42_alu8.md rule R161). -/
def execSubE (s : State) : Result := alu .sub (.opnd (.reg .e)) s

/-- `SUB H`, 0x94 (42_alu8.md rule R161). -/
def execSubH (s : State) : Result := alu .sub (.opnd (.reg .h)) s

/-- `SUB L`, 0x95 (42_alu8.md rule R161). -/
def execSubL (s : State) : Result := alu .sub (.opnd (.reg .l)) s

/-- `SUB (HL)`, 0x96 (42_alu8.md rule R162). -/
def execSubMemHl (s : State) : Result := alu .sub (.opnd .memHl) s

/-- `SUB A`, 0x97 (42_alu8.md rule R161). -/
def execSubA (s : State) : Result := alu .sub (.opnd (.reg .a)) s

/-- `SBC A,B`, 0x98 (42_alu8.md rule R164). -/
def execSbcAB (s : State) : Result := alu .sbc (.opnd (.reg .b)) s

/-- `SBC A,C`, 0x99 (42_alu8.md rule R164). -/
def execSbcAC (s : State) : Result := alu .sbc (.opnd (.reg .c)) s

/-- `SBC A,D`, 0x9A (42_alu8.md rule R164). -/
def execSbcAD (s : State) : Result := alu .sbc (.opnd (.reg .d)) s

/-- `SBC A,E`, 0x9B (42_alu8.md rule R164). -/
def execSbcAE (s : State) : Result := alu .sbc (.opnd (.reg .e)) s

/-- `SBC A,H`, 0x9C (42_alu8.md rule R164). -/
def execSbcAH (s : State) : Result := alu .sbc (.opnd (.reg .h)) s

/-- `SBC A,L`, 0x9D (42_alu8.md rule R164). -/
def execSbcAL (s : State) : Result := alu .sbc (.opnd (.reg .l)) s

/-- `SBC A,(HL)`, 0x9E (42_alu8.md rule R165). -/
def execSbcAMemHl (s : State) : Result := alu .sbc (.opnd .memHl) s

/-- `SBC A,A`, 0x9F (42_alu8.md rule R164). -/
def execSbcAA (s : State) : Result := alu .sbc (.opnd (.reg .a)) s

/-- `AND B`, 0xA0 (42_alu8.md rule R167). -/
def execAndB (s : State) : Result := alu .and (.opnd (.reg .b)) s

/-- `AND C`, 0xA1 (42_alu8.md rule R167). -/
def execAndC (s : State) : Result := alu .and (.opnd (.reg .c)) s

/-- `AND D`, 0xA2 (42_alu8.md rule R167). -/
def execAndD (s : State) : Result := alu .and (.opnd (.reg .d)) s

/-- `AND E`, 0xA3 (42_alu8.md rule R167). -/
def execAndE (s : State) : Result := alu .and (.opnd (.reg .e)) s

/-- `AND H`, 0xA4 (42_alu8.md rule R167). -/
def execAndH (s : State) : Result := alu .and (.opnd (.reg .h)) s

/-- `AND L`, 0xA5 (42_alu8.md rule R167). -/
def execAndL (s : State) : Result := alu .and (.opnd (.reg .l)) s

/-- `AND (HL)`, 0xA6 (42_alu8.md rule R168). -/
def execAndMemHl (s : State) : Result := alu .and (.opnd .memHl) s

/-- `AND A`, 0xA7 (42_alu8.md rule R167). -/
def execAndA (s : State) : Result := alu .and (.opnd (.reg .a)) s

/-- `XOR B`, 0xA8 (42_alu8.md rule R170). -/
def execXorB (s : State) : Result := alu .xor (.opnd (.reg .b)) s

/-- `XOR C`, 0xA9 (42_alu8.md rule R170). -/
def execXorC (s : State) : Result := alu .xor (.opnd (.reg .c)) s

/-- `XOR D`, 0xAA (42_alu8.md rule R170). -/
def execXorD (s : State) : Result := alu .xor (.opnd (.reg .d)) s

/-- `XOR E`, 0xAB (42_alu8.md rule R170). -/
def execXorE (s : State) : Result := alu .xor (.opnd (.reg .e)) s

/-- `XOR H`, 0xAC (42_alu8.md rule R170). -/
def execXorH (s : State) : Result := alu .xor (.opnd (.reg .h)) s

/-- `XOR L`, 0xAD (42_alu8.md rule R170). -/
def execXorL (s : State) : Result := alu .xor (.opnd (.reg .l)) s

/-- `XOR (HL)`, 0xAE (42_alu8.md rule R171). -/
def execXorMemHl (s : State) : Result := alu .xor (.opnd .memHl) s

/-- `XOR A`, 0xAF (42_alu8.md rule R170). -/
def execXorA (s : State) : Result := alu .xor (.opnd (.reg .a)) s

/-- `OR B`, 0xB0 (42_alu8.md rule R173). -/
def execOrB (s : State) : Result := alu .or (.opnd (.reg .b)) s

/-- `OR C`, 0xB1 (42_alu8.md rule R173). -/
def execOrC (s : State) : Result := alu .or (.opnd (.reg .c)) s

/-- `OR D`, 0xB2 (42_alu8.md rule R173). -/
def execOrD (s : State) : Result := alu .or (.opnd (.reg .d)) s

/-- `OR E`, 0xB3 (42_alu8.md rule R173). -/
def execOrE (s : State) : Result := alu .or (.opnd (.reg .e)) s

/-- `OR H`, 0xB4 (42_alu8.md rule R173). -/
def execOrH (s : State) : Result := alu .or (.opnd (.reg .h)) s

/-- `OR L`, 0xB5 (42_alu8.md rule R173). -/
def execOrL (s : State) : Result := alu .or (.opnd (.reg .l)) s

/-- `OR (HL)`, 0xB6 (42_alu8.md rule R174). -/
def execOrMemHl (s : State) : Result := alu .or (.opnd .memHl) s

/-- `OR A`, 0xB7 (42_alu8.md rule R173). -/
def execOrA (s : State) : Result := alu .or (.opnd (.reg .a)) s

/-- `CP B`, 0xB8 (42_alu8.md rule R176). -/
def execCpB (s : State) : Result := alu .cp (.opnd (.reg .b)) s

/-- `CP C`, 0xB9 (42_alu8.md rule R176). -/
def execCpC (s : State) : Result := alu .cp (.opnd (.reg .c)) s

/-- `CP D`, 0xBA (42_alu8.md rule R176). -/
def execCpD (s : State) : Result := alu .cp (.opnd (.reg .d)) s

/-- `CP E`, 0xBB (42_alu8.md rule R176). -/
def execCpE (s : State) : Result := alu .cp (.opnd (.reg .e)) s

/-- `CP H`, 0xBC (42_alu8.md rule R176). -/
def execCpH (s : State) : Result := alu .cp (.opnd (.reg .h)) s

/-- `CP L`, 0xBD (42_alu8.md rule R176). -/
def execCpL (s : State) : Result := alu .cp (.opnd (.reg .l)) s

/-- `CP (HL)`, 0xBE (42_alu8.md rule R177). -/
def execCpMemHl (s : State) : Result := alu .cp (.opnd .memHl) s

/-- `CP A`, 0xBF (42_alu8.md rule R176). -/
def execCpA (s : State) : Result := alu .cp (.opnd (.reg .a)) s

end Sys2Proof.Machine
end

