-- ==== Sys2Proof/Machine/Bit.lean ====
section
/-! DEFINITION. Bit test, reset and set (44_rotate_shift_bit.md rules R220 to R225). -/

namespace Sys2Proof.Machine

/-- `BIT b,r`, `BIT b,(HL)` (44_rotate_shift_bit.md rules R220, R221). -/
def bitTest (b : BitVec 3) (o : Opnd8) (s : State) : Result :=
  let v := s.readOpnd o
  v.2.done { v.2.cpu with fZ := !v.1.getLsbD b.toNat, fN := false, fH := true } (opndCost o 8 12)

/-- `RES b,r`, `RES b,(HL)` (44_rotate_shift_bit.md rules R222, R223). -/
def resBit (b : BitVec 3) (o : Opnd8) (s : State) : Result :=
  let v := s.readOpnd o
  let t := v.2.writeOpnd o (v.1 &&& ~~~bitMask b)
  t.done t.cpu (opndCost o 8 16)

/-- `SET b,r`, `SET b,(HL)` (44_rotate_shift_bit.md rules R224, R225). -/
def setBit (b : BitVec 3) (o : Opnd8) (s : State) : Result :=
  let v := s.readOpnd o
  let t := v.2.writeOpnd o (v.1 ||| bitMask b)
  t.done t.cpu (opndCost o 8 16)

/-- `BIT 0,B`, 0xCB 0x40 (44_rotate_shift_bit.md rule R220). -/
def execCbBit0B (s : State) : Result := bitTest 0 (.reg .b) s

/-- `BIT 0,C`, 0xCB 0x41 (44_rotate_shift_bit.md rule R220). -/
def execCbBit0C (s : State) : Result := bitTest 0 (.reg .c) s

/-- `BIT 0,D`, 0xCB 0x42 (44_rotate_shift_bit.md rule R220). -/
def execCbBit0D (s : State) : Result := bitTest 0 (.reg .d) s

/-- `BIT 0,E`, 0xCB 0x43 (44_rotate_shift_bit.md rule R220). -/
def execCbBit0E (s : State) : Result := bitTest 0 (.reg .e) s

/-- `BIT 0,H`, 0xCB 0x44 (44_rotate_shift_bit.md rule R220). -/
def execCbBit0H (s : State) : Result := bitTest 0 (.reg .h) s

/-- `BIT 0,L`, 0xCB 0x45 (44_rotate_shift_bit.md rule R220). -/
def execCbBit0L (s : State) : Result := bitTest 0 (.reg .l) s

/-- `BIT 0,(HL)`, 0xCB 0x46 (44_rotate_shift_bit.md rule R221). -/
def execCbBit0MemHl (s : State) : Result := bitTest 0 .memHl s

/-- `BIT 0,A`, 0xCB 0x47 (44_rotate_shift_bit.md rule R220). -/
def execCbBit0A (s : State) : Result := bitTest 0 (.reg .a) s

/-- `BIT 1,B`, 0xCB 0x48 (44_rotate_shift_bit.md rule R220). -/
def execCbBit1B (s : State) : Result := bitTest 1 (.reg .b) s

/-- `BIT 1,C`, 0xCB 0x49 (44_rotate_shift_bit.md rule R220). -/
def execCbBit1C (s : State) : Result := bitTest 1 (.reg .c) s

/-- `BIT 1,D`, 0xCB 0x4A (44_rotate_shift_bit.md rule R220). -/
def execCbBit1D (s : State) : Result := bitTest 1 (.reg .d) s

/-- `BIT 1,E`, 0xCB 0x4B (44_rotate_shift_bit.md rule R220). -/
def execCbBit1E (s : State) : Result := bitTest 1 (.reg .e) s

/-- `BIT 1,H`, 0xCB 0x4C (44_rotate_shift_bit.md rule R220). -/
def execCbBit1H (s : State) : Result := bitTest 1 (.reg .h) s

/-- `BIT 1,L`, 0xCB 0x4D (44_rotate_shift_bit.md rule R220). -/
def execCbBit1L (s : State) : Result := bitTest 1 (.reg .l) s

/-- `BIT 1,(HL)`, 0xCB 0x4E (44_rotate_shift_bit.md rule R221). -/
def execCbBit1MemHl (s : State) : Result := bitTest 1 .memHl s

/-- `BIT 1,A`, 0xCB 0x4F (44_rotate_shift_bit.md rule R220). -/
def execCbBit1A (s : State) : Result := bitTest 1 (.reg .a) s

/-- `BIT 2,B`, 0xCB 0x50 (44_rotate_shift_bit.md rule R220). -/
def execCbBit2B (s : State) : Result := bitTest 2 (.reg .b) s

/-- `BIT 2,C`, 0xCB 0x51 (44_rotate_shift_bit.md rule R220). -/
def execCbBit2C (s : State) : Result := bitTest 2 (.reg .c) s

/-- `BIT 2,D`, 0xCB 0x52 (44_rotate_shift_bit.md rule R220). -/
def execCbBit2D (s : State) : Result := bitTest 2 (.reg .d) s

/-- `BIT 2,E`, 0xCB 0x53 (44_rotate_shift_bit.md rule R220). -/
def execCbBit2E (s : State) : Result := bitTest 2 (.reg .e) s

/-- `BIT 2,H`, 0xCB 0x54 (44_rotate_shift_bit.md rule R220). -/
def execCbBit2H (s : State) : Result := bitTest 2 (.reg .h) s

/-- `BIT 2,L`, 0xCB 0x55 (44_rotate_shift_bit.md rule R220). -/
def execCbBit2L (s : State) : Result := bitTest 2 (.reg .l) s

/-- `BIT 2,(HL)`, 0xCB 0x56 (44_rotate_shift_bit.md rule R221). -/
def execCbBit2MemHl (s : State) : Result := bitTest 2 .memHl s

/-- `BIT 2,A`, 0xCB 0x57 (44_rotate_shift_bit.md rule R220). -/
def execCbBit2A (s : State) : Result := bitTest 2 (.reg .a) s

/-- `BIT 3,B`, 0xCB 0x58 (44_rotate_shift_bit.md rule R220). -/
def execCbBit3B (s : State) : Result := bitTest 3 (.reg .b) s

/-- `BIT 3,C`, 0xCB 0x59 (44_rotate_shift_bit.md rule R220). -/
def execCbBit3C (s : State) : Result := bitTest 3 (.reg .c) s

/-- `BIT 3,D`, 0xCB 0x5A (44_rotate_shift_bit.md rule R220). -/
def execCbBit3D (s : State) : Result := bitTest 3 (.reg .d) s

/-- `BIT 3,E`, 0xCB 0x5B (44_rotate_shift_bit.md rule R220). -/
def execCbBit3E (s : State) : Result := bitTest 3 (.reg .e) s

/-- `BIT 3,H`, 0xCB 0x5C (44_rotate_shift_bit.md rule R220). -/
def execCbBit3H (s : State) : Result := bitTest 3 (.reg .h) s

/-- `BIT 3,L`, 0xCB 0x5D (44_rotate_shift_bit.md rule R220). -/
def execCbBit3L (s : State) : Result := bitTest 3 (.reg .l) s

/-- `BIT 3,(HL)`, 0xCB 0x5E (44_rotate_shift_bit.md rule R221). -/
def execCbBit3MemHl (s : State) : Result := bitTest 3 .memHl s

/-- `BIT 3,A`, 0xCB 0x5F (44_rotate_shift_bit.md rule R220). -/
def execCbBit3A (s : State) : Result := bitTest 3 (.reg .a) s

/-- `BIT 4,B`, 0xCB 0x60 (44_rotate_shift_bit.md rule R220). -/
def execCbBit4B (s : State) : Result := bitTest 4 (.reg .b) s

/-- `BIT 4,C`, 0xCB 0x61 (44_rotate_shift_bit.md rule R220). -/
def execCbBit4C (s : State) : Result := bitTest 4 (.reg .c) s

/-- `BIT 4,D`, 0xCB 0x62 (44_rotate_shift_bit.md rule R220). -/
def execCbBit4D (s : State) : Result := bitTest 4 (.reg .d) s

/-- `BIT 4,E`, 0xCB 0x63 (44_rotate_shift_bit.md rule R220). -/
def execCbBit4E (s : State) : Result := bitTest 4 (.reg .e) s

/-- `BIT 4,H`, 0xCB 0x64 (44_rotate_shift_bit.md rule R220). -/
def execCbBit4H (s : State) : Result := bitTest 4 (.reg .h) s

/-- `BIT 4,L`, 0xCB 0x65 (44_rotate_shift_bit.md rule R220). -/
def execCbBit4L (s : State) : Result := bitTest 4 (.reg .l) s

/-- `BIT 4,(HL)`, 0xCB 0x66 (44_rotate_shift_bit.md rule R221). -/
def execCbBit4MemHl (s : State) : Result := bitTest 4 .memHl s

/-- `BIT 4,A`, 0xCB 0x67 (44_rotate_shift_bit.md rule R220). -/
def execCbBit4A (s : State) : Result := bitTest 4 (.reg .a) s

/-- `BIT 5,B`, 0xCB 0x68 (44_rotate_shift_bit.md rule R220). -/
def execCbBit5B (s : State) : Result := bitTest 5 (.reg .b) s

/-- `BIT 5,C`, 0xCB 0x69 (44_rotate_shift_bit.md rule R220). -/
def execCbBit5C (s : State) : Result := bitTest 5 (.reg .c) s

/-- `BIT 5,D`, 0xCB 0x6A (44_rotate_shift_bit.md rule R220). -/
def execCbBit5D (s : State) : Result := bitTest 5 (.reg .d) s

/-- `BIT 5,E`, 0xCB 0x6B (44_rotate_shift_bit.md rule R220). -/
def execCbBit5E (s : State) : Result := bitTest 5 (.reg .e) s

/-- `BIT 5,H`, 0xCB 0x6C (44_rotate_shift_bit.md rule R220). -/
def execCbBit5H (s : State) : Result := bitTest 5 (.reg .h) s

/-- `BIT 5,L`, 0xCB 0x6D (44_rotate_shift_bit.md rule R220). -/
def execCbBit5L (s : State) : Result := bitTest 5 (.reg .l) s

/-- `BIT 5,(HL)`, 0xCB 0x6E (44_rotate_shift_bit.md rule R221). -/
def execCbBit5MemHl (s : State) : Result := bitTest 5 .memHl s

/-- `BIT 5,A`, 0xCB 0x6F (44_rotate_shift_bit.md rule R220). -/
def execCbBit5A (s : State) : Result := bitTest 5 (.reg .a) s

/-- `BIT 6,B`, 0xCB 0x70 (44_rotate_shift_bit.md rule R220). -/
def execCbBit6B (s : State) : Result := bitTest 6 (.reg .b) s

/-- `BIT 6,C`, 0xCB 0x71 (44_rotate_shift_bit.md rule R220). -/
def execCbBit6C (s : State) : Result := bitTest 6 (.reg .c) s

/-- `BIT 6,D`, 0xCB 0x72 (44_rotate_shift_bit.md rule R220). -/
def execCbBit6D (s : State) : Result := bitTest 6 (.reg .d) s

/-- `BIT 6,E`, 0xCB 0x73 (44_rotate_shift_bit.md rule R220). -/
def execCbBit6E (s : State) : Result := bitTest 6 (.reg .e) s

/-- `BIT 6,H`, 0xCB 0x74 (44_rotate_shift_bit.md rule R220). -/
def execCbBit6H (s : State) : Result := bitTest 6 (.reg .h) s

/-- `BIT 6,L`, 0xCB 0x75 (44_rotate_shift_bit.md rule R220). -/
def execCbBit6L (s : State) : Result := bitTest 6 (.reg .l) s

/-- `BIT 6,(HL)`, 0xCB 0x76 (44_rotate_shift_bit.md rule R221). -/
def execCbBit6MemHl (s : State) : Result := bitTest 6 .memHl s

/-- `BIT 6,A`, 0xCB 0x77 (44_rotate_shift_bit.md rule R220). -/
def execCbBit6A (s : State) : Result := bitTest 6 (.reg .a) s

/-- `BIT 7,B`, 0xCB 0x78 (44_rotate_shift_bit.md rule R220). -/
def execCbBit7B (s : State) : Result := bitTest 7 (.reg .b) s

/-- `BIT 7,C`, 0xCB 0x79 (44_rotate_shift_bit.md rule R220). -/
def execCbBit7C (s : State) : Result := bitTest 7 (.reg .c) s

/-- `BIT 7,D`, 0xCB 0x7A (44_rotate_shift_bit.md rule R220). -/
def execCbBit7D (s : State) : Result := bitTest 7 (.reg .d) s

/-- `BIT 7,E`, 0xCB 0x7B (44_rotate_shift_bit.md rule R220). -/
def execCbBit7E (s : State) : Result := bitTest 7 (.reg .e) s

/-- `BIT 7,H`, 0xCB 0x7C (44_rotate_shift_bit.md rule R220). -/
def execCbBit7H (s : State) : Result := bitTest 7 (.reg .h) s

/-- `BIT 7,L`, 0xCB 0x7D (44_rotate_shift_bit.md rule R220). -/
def execCbBit7L (s : State) : Result := bitTest 7 (.reg .l) s

/-- `BIT 7,(HL)`, 0xCB 0x7E (44_rotate_shift_bit.md rule R221). -/
def execCbBit7MemHl (s : State) : Result := bitTest 7 .memHl s

/-- `BIT 7,A`, 0xCB 0x7F (44_rotate_shift_bit.md rule R220). -/
def execCbBit7A (s : State) : Result := bitTest 7 (.reg .a) s

/-- `RES 0,B`, 0xCB 0x80 (44_rotate_shift_bit.md rule R222). -/
def execCbRes0B (s : State) : Result := resBit 0 (.reg .b) s

/-- `RES 0,C`, 0xCB 0x81 (44_rotate_shift_bit.md rule R222). -/
def execCbRes0C (s : State) : Result := resBit 0 (.reg .c) s

/-- `RES 0,D`, 0xCB 0x82 (44_rotate_shift_bit.md rule R222). -/
def execCbRes0D (s : State) : Result := resBit 0 (.reg .d) s

/-- `RES 0,E`, 0xCB 0x83 (44_rotate_shift_bit.md rule R222). -/
def execCbRes0E (s : State) : Result := resBit 0 (.reg .e) s

/-- `RES 0,H`, 0xCB 0x84 (44_rotate_shift_bit.md rule R222). -/
def execCbRes0H (s : State) : Result := resBit 0 (.reg .h) s

/-- `RES 0,L`, 0xCB 0x85 (44_rotate_shift_bit.md rule R222). -/
def execCbRes0L (s : State) : Result := resBit 0 (.reg .l) s

/-- `RES 0,(HL)`, 0xCB 0x86 (44_rotate_shift_bit.md rule R223). -/
def execCbRes0MemHl (s : State) : Result := resBit 0 .memHl s

/-- `RES 0,A`, 0xCB 0x87 (44_rotate_shift_bit.md rule R222). -/
def execCbRes0A (s : State) : Result := resBit 0 (.reg .a) s

/-- `RES 1,B`, 0xCB 0x88 (44_rotate_shift_bit.md rule R222). -/
def execCbRes1B (s : State) : Result := resBit 1 (.reg .b) s

/-- `RES 1,C`, 0xCB 0x89 (44_rotate_shift_bit.md rule R222). -/
def execCbRes1C (s : State) : Result := resBit 1 (.reg .c) s

/-- `RES 1,D`, 0xCB 0x8A (44_rotate_shift_bit.md rule R222). -/
def execCbRes1D (s : State) : Result := resBit 1 (.reg .d) s

/-- `RES 1,E`, 0xCB 0x8B (44_rotate_shift_bit.md rule R222). -/
def execCbRes1E (s : State) : Result := resBit 1 (.reg .e) s

/-- `RES 1,H`, 0xCB 0x8C (44_rotate_shift_bit.md rule R222). -/
def execCbRes1H (s : State) : Result := resBit 1 (.reg .h) s

/-- `RES 1,L`, 0xCB 0x8D (44_rotate_shift_bit.md rule R222). -/
def execCbRes1L (s : State) : Result := resBit 1 (.reg .l) s

/-- `RES 1,(HL)`, 0xCB 0x8E (44_rotate_shift_bit.md rule R223). -/
def execCbRes1MemHl (s : State) : Result := resBit 1 .memHl s

/-- `RES 1,A`, 0xCB 0x8F (44_rotate_shift_bit.md rule R222). -/
def execCbRes1A (s : State) : Result := resBit 1 (.reg .a) s

/-- `RES 2,B`, 0xCB 0x90 (44_rotate_shift_bit.md rule R222). -/
def execCbRes2B (s : State) : Result := resBit 2 (.reg .b) s

/-- `RES 2,C`, 0xCB 0x91 (44_rotate_shift_bit.md rule R222). -/
def execCbRes2C (s : State) : Result := resBit 2 (.reg .c) s

/-- `RES 2,D`, 0xCB 0x92 (44_rotate_shift_bit.md rule R222). -/
def execCbRes2D (s : State) : Result := resBit 2 (.reg .d) s

/-- `RES 2,E`, 0xCB 0x93 (44_rotate_shift_bit.md rule R222). -/
def execCbRes2E (s : State) : Result := resBit 2 (.reg .e) s

/-- `RES 2,H`, 0xCB 0x94 (44_rotate_shift_bit.md rule R222). -/
def execCbRes2H (s : State) : Result := resBit 2 (.reg .h) s

/-- `RES 2,L`, 0xCB 0x95 (44_rotate_shift_bit.md rule R222). -/
def execCbRes2L (s : State) : Result := resBit 2 (.reg .l) s

/-- `RES 2,(HL)`, 0xCB 0x96 (44_rotate_shift_bit.md rule R223). -/
def execCbRes2MemHl (s : State) : Result := resBit 2 .memHl s

/-- `RES 2,A`, 0xCB 0x97 (44_rotate_shift_bit.md rule R222). -/
def execCbRes2A (s : State) : Result := resBit 2 (.reg .a) s

/-- `RES 3,B`, 0xCB 0x98 (44_rotate_shift_bit.md rule R222). -/
def execCbRes3B (s : State) : Result := resBit 3 (.reg .b) s

/-- `RES 3,C`, 0xCB 0x99 (44_rotate_shift_bit.md rule R222). -/
def execCbRes3C (s : State) : Result := resBit 3 (.reg .c) s

/-- `RES 3,D`, 0xCB 0x9A (44_rotate_shift_bit.md rule R222). -/
def execCbRes3D (s : State) : Result := resBit 3 (.reg .d) s

/-- `RES 3,E`, 0xCB 0x9B (44_rotate_shift_bit.md rule R222). -/
def execCbRes3E (s : State) : Result := resBit 3 (.reg .e) s

/-- `RES 3,H`, 0xCB 0x9C (44_rotate_shift_bit.md rule R222). -/
def execCbRes3H (s : State) : Result := resBit 3 (.reg .h) s

/-- `RES 3,L`, 0xCB 0x9D (44_rotate_shift_bit.md rule R222). -/
def execCbRes3L (s : State) : Result := resBit 3 (.reg .l) s

/-- `RES 3,(HL)`, 0xCB 0x9E (44_rotate_shift_bit.md rule R223). -/
def execCbRes3MemHl (s : State) : Result := resBit 3 .memHl s

/-- `RES 3,A`, 0xCB 0x9F (44_rotate_shift_bit.md rule R222). -/
def execCbRes3A (s : State) : Result := resBit 3 (.reg .a) s

/-- `RES 4,B`, 0xCB 0xA0 (44_rotate_shift_bit.md rule R222). -/
def execCbRes4B (s : State) : Result := resBit 4 (.reg .b) s

/-- `RES 4,C`, 0xCB 0xA1 (44_rotate_shift_bit.md rule R222). -/
def execCbRes4C (s : State) : Result := resBit 4 (.reg .c) s

/-- `RES 4,D`, 0xCB 0xA2 (44_rotate_shift_bit.md rule R222). -/
def execCbRes4D (s : State) : Result := resBit 4 (.reg .d) s

/-- `RES 4,E`, 0xCB 0xA3 (44_rotate_shift_bit.md rule R222). -/
def execCbRes4E (s : State) : Result := resBit 4 (.reg .e) s

/-- `RES 4,H`, 0xCB 0xA4 (44_rotate_shift_bit.md rule R222). -/
def execCbRes4H (s : State) : Result := resBit 4 (.reg .h) s

/-- `RES 4,L`, 0xCB 0xA5 (44_rotate_shift_bit.md rule R222). -/
def execCbRes4L (s : State) : Result := resBit 4 (.reg .l) s

/-- `RES 4,(HL)`, 0xCB 0xA6 (44_rotate_shift_bit.md rule R223). -/
def execCbRes4MemHl (s : State) : Result := resBit 4 .memHl s

/-- `RES 4,A`, 0xCB 0xA7 (44_rotate_shift_bit.md rule R222). -/
def execCbRes4A (s : State) : Result := resBit 4 (.reg .a) s

/-- `RES 5,B`, 0xCB 0xA8 (44_rotate_shift_bit.md rule R222). -/
def execCbRes5B (s : State) : Result := resBit 5 (.reg .b) s

/-- `RES 5,C`, 0xCB 0xA9 (44_rotate_shift_bit.md rule R222). -/
def execCbRes5C (s : State) : Result := resBit 5 (.reg .c) s

/-- `RES 5,D`, 0xCB 0xAA (44_rotate_shift_bit.md rule R222). -/
def execCbRes5D (s : State) : Result := resBit 5 (.reg .d) s

/-- `RES 5,E`, 0xCB 0xAB (44_rotate_shift_bit.md rule R222). -/
def execCbRes5E (s : State) : Result := resBit 5 (.reg .e) s

/-- `RES 5,H`, 0xCB 0xAC (44_rotate_shift_bit.md rule R222). -/
def execCbRes5H (s : State) : Result := resBit 5 (.reg .h) s

/-- `RES 5,L`, 0xCB 0xAD (44_rotate_shift_bit.md rule R222). -/
def execCbRes5L (s : State) : Result := resBit 5 (.reg .l) s

/-- `RES 5,(HL)`, 0xCB 0xAE (44_rotate_shift_bit.md rule R223). -/
def execCbRes5MemHl (s : State) : Result := resBit 5 .memHl s

/-- `RES 5,A`, 0xCB 0xAF (44_rotate_shift_bit.md rule R222). -/
def execCbRes5A (s : State) : Result := resBit 5 (.reg .a) s

/-- `RES 6,B`, 0xCB 0xB0 (44_rotate_shift_bit.md rule R222). -/
def execCbRes6B (s : State) : Result := resBit 6 (.reg .b) s

/-- `RES 6,C`, 0xCB 0xB1 (44_rotate_shift_bit.md rule R222). -/
def execCbRes6C (s : State) : Result := resBit 6 (.reg .c) s

/-- `RES 6,D`, 0xCB 0xB2 (44_rotate_shift_bit.md rule R222). -/
def execCbRes6D (s : State) : Result := resBit 6 (.reg .d) s

/-- `RES 6,E`, 0xCB 0xB3 (44_rotate_shift_bit.md rule R222). -/
def execCbRes6E (s : State) : Result := resBit 6 (.reg .e) s

/-- `RES 6,H`, 0xCB 0xB4 (44_rotate_shift_bit.md rule R222). -/
def execCbRes6H (s : State) : Result := resBit 6 (.reg .h) s

/-- `RES 6,L`, 0xCB 0xB5 (44_rotate_shift_bit.md rule R222). -/
def execCbRes6L (s : State) : Result := resBit 6 (.reg .l) s

/-- `RES 6,(HL)`, 0xCB 0xB6 (44_rotate_shift_bit.md rule R223). -/
def execCbRes6MemHl (s : State) : Result := resBit 6 .memHl s

/-- `RES 6,A`, 0xCB 0xB7 (44_rotate_shift_bit.md rule R222). -/
def execCbRes6A (s : State) : Result := resBit 6 (.reg .a) s

/-- `RES 7,B`, 0xCB 0xB8 (44_rotate_shift_bit.md rule R222). -/
def execCbRes7B (s : State) : Result := resBit 7 (.reg .b) s

/-- `RES 7,C`, 0xCB 0xB9 (44_rotate_shift_bit.md rule R222). -/
def execCbRes7C (s : State) : Result := resBit 7 (.reg .c) s

/-- `RES 7,D`, 0xCB 0xBA (44_rotate_shift_bit.md rule R222). -/
def execCbRes7D (s : State) : Result := resBit 7 (.reg .d) s

/-- `RES 7,E`, 0xCB 0xBB (44_rotate_shift_bit.md rule R222). -/
def execCbRes7E (s : State) : Result := resBit 7 (.reg .e) s

/-- `RES 7,H`, 0xCB 0xBC (44_rotate_shift_bit.md rule R222). -/
def execCbRes7H (s : State) : Result := resBit 7 (.reg .h) s

/-- `RES 7,L`, 0xCB 0xBD (44_rotate_shift_bit.md rule R222). -/
def execCbRes7L (s : State) : Result := resBit 7 (.reg .l) s

/-- `RES 7,(HL)`, 0xCB 0xBE (44_rotate_shift_bit.md rule R223). -/
def execCbRes7MemHl (s : State) : Result := resBit 7 .memHl s

/-- `RES 7,A`, 0xCB 0xBF (44_rotate_shift_bit.md rule R222). -/
def execCbRes7A (s : State) : Result := resBit 7 (.reg .a) s

/-- `SET 0,B`, 0xCB 0xC0 (44_rotate_shift_bit.md rule R224). -/
def execCbSet0B (s : State) : Result := setBit 0 (.reg .b) s

/-- `SET 0,C`, 0xCB 0xC1 (44_rotate_shift_bit.md rule R224). -/
def execCbSet0C (s : State) : Result := setBit 0 (.reg .c) s

/-- `SET 0,D`, 0xCB 0xC2 (44_rotate_shift_bit.md rule R224). -/
def execCbSet0D (s : State) : Result := setBit 0 (.reg .d) s

/-- `SET 0,E`, 0xCB 0xC3 (44_rotate_shift_bit.md rule R224). -/
def execCbSet0E (s : State) : Result := setBit 0 (.reg .e) s

/-- `SET 0,H`, 0xCB 0xC4 (44_rotate_shift_bit.md rule R224). -/
def execCbSet0H (s : State) : Result := setBit 0 (.reg .h) s

/-- `SET 0,L`, 0xCB 0xC5 (44_rotate_shift_bit.md rule R224). -/
def execCbSet0L (s : State) : Result := setBit 0 (.reg .l) s

/-- `SET 0,(HL)`, 0xCB 0xC6 (44_rotate_shift_bit.md rule R225). -/
def execCbSet0MemHl (s : State) : Result := setBit 0 .memHl s

/-- `SET 0,A`, 0xCB 0xC7 (44_rotate_shift_bit.md rule R224). -/
def execCbSet0A (s : State) : Result := setBit 0 (.reg .a) s

/-- `SET 1,B`, 0xCB 0xC8 (44_rotate_shift_bit.md rule R224). -/
def execCbSet1B (s : State) : Result := setBit 1 (.reg .b) s

/-- `SET 1,C`, 0xCB 0xC9 (44_rotate_shift_bit.md rule R224). -/
def execCbSet1C (s : State) : Result := setBit 1 (.reg .c) s

/-- `SET 1,D`, 0xCB 0xCA (44_rotate_shift_bit.md rule R224). -/
def execCbSet1D (s : State) : Result := setBit 1 (.reg .d) s

/-- `SET 1,E`, 0xCB 0xCB (44_rotate_shift_bit.md rule R224). -/
def execCbSet1E (s : State) : Result := setBit 1 (.reg .e) s

/-- `SET 1,H`, 0xCB 0xCC (44_rotate_shift_bit.md rule R224). -/
def execCbSet1H (s : State) : Result := setBit 1 (.reg .h) s

/-- `SET 1,L`, 0xCB 0xCD (44_rotate_shift_bit.md rule R224). -/
def execCbSet1L (s : State) : Result := setBit 1 (.reg .l) s

/-- `SET 1,(HL)`, 0xCB 0xCE (44_rotate_shift_bit.md rule R225). -/
def execCbSet1MemHl (s : State) : Result := setBit 1 .memHl s

/-- `SET 1,A`, 0xCB 0xCF (44_rotate_shift_bit.md rule R224). -/
def execCbSet1A (s : State) : Result := setBit 1 (.reg .a) s

/-- `SET 2,B`, 0xCB 0xD0 (44_rotate_shift_bit.md rule R224). -/
def execCbSet2B (s : State) : Result := setBit 2 (.reg .b) s

/-- `SET 2,C`, 0xCB 0xD1 (44_rotate_shift_bit.md rule R224). -/
def execCbSet2C (s : State) : Result := setBit 2 (.reg .c) s

/-- `SET 2,D`, 0xCB 0xD2 (44_rotate_shift_bit.md rule R224). -/
def execCbSet2D (s : State) : Result := setBit 2 (.reg .d) s

/-- `SET 2,E`, 0xCB 0xD3 (44_rotate_shift_bit.md rule R224). -/
def execCbSet2E (s : State) : Result := setBit 2 (.reg .e) s

/-- `SET 2,H`, 0xCB 0xD4 (44_rotate_shift_bit.md rule R224). -/
def execCbSet2H (s : State) : Result := setBit 2 (.reg .h) s

/-- `SET 2,L`, 0xCB 0xD5 (44_rotate_shift_bit.md rule R224). -/
def execCbSet2L (s : State) : Result := setBit 2 (.reg .l) s

/-- `SET 2,(HL)`, 0xCB 0xD6 (44_rotate_shift_bit.md rule R225). -/
def execCbSet2MemHl (s : State) : Result := setBit 2 .memHl s

/-- `SET 2,A`, 0xCB 0xD7 (44_rotate_shift_bit.md rule R224). -/
def execCbSet2A (s : State) : Result := setBit 2 (.reg .a) s

/-- `SET 3,B`, 0xCB 0xD8 (44_rotate_shift_bit.md rule R224). -/
def execCbSet3B (s : State) : Result := setBit 3 (.reg .b) s

/-- `SET 3,C`, 0xCB 0xD9 (44_rotate_shift_bit.md rule R224). -/
def execCbSet3C (s : State) : Result := setBit 3 (.reg .c) s

/-- `SET 3,D`, 0xCB 0xDA (44_rotate_shift_bit.md rule R224). -/
def execCbSet3D (s : State) : Result := setBit 3 (.reg .d) s

/-- `SET 3,E`, 0xCB 0xDB (44_rotate_shift_bit.md rule R224). -/
def execCbSet3E (s : State) : Result := setBit 3 (.reg .e) s

/-- `SET 3,H`, 0xCB 0xDC (44_rotate_shift_bit.md rule R224). -/
def execCbSet3H (s : State) : Result := setBit 3 (.reg .h) s

/-- `SET 3,L`, 0xCB 0xDD (44_rotate_shift_bit.md rule R224). -/
def execCbSet3L (s : State) : Result := setBit 3 (.reg .l) s

/-- `SET 3,(HL)`, 0xCB 0xDE (44_rotate_shift_bit.md rule R225). -/
def execCbSet3MemHl (s : State) : Result := setBit 3 .memHl s

/-- `SET 3,A`, 0xCB 0xDF (44_rotate_shift_bit.md rule R224). -/
def execCbSet3A (s : State) : Result := setBit 3 (.reg .a) s

/-- `SET 4,B`, 0xCB 0xE0 (44_rotate_shift_bit.md rule R224). -/
def execCbSet4B (s : State) : Result := setBit 4 (.reg .b) s

/-- `SET 4,C`, 0xCB 0xE1 (44_rotate_shift_bit.md rule R224). -/
def execCbSet4C (s : State) : Result := setBit 4 (.reg .c) s

/-- `SET 4,D`, 0xCB 0xE2 (44_rotate_shift_bit.md rule R224). -/
def execCbSet4D (s : State) : Result := setBit 4 (.reg .d) s

/-- `SET 4,E`, 0xCB 0xE3 (44_rotate_shift_bit.md rule R224). -/
def execCbSet4E (s : State) : Result := setBit 4 (.reg .e) s

/-- `SET 4,H`, 0xCB 0xE4 (44_rotate_shift_bit.md rule R224). -/
def execCbSet4H (s : State) : Result := setBit 4 (.reg .h) s

/-- `SET 4,L`, 0xCB 0xE5 (44_rotate_shift_bit.md rule R224). -/
def execCbSet4L (s : State) : Result := setBit 4 (.reg .l) s

/-- `SET 4,(HL)`, 0xCB 0xE6 (44_rotate_shift_bit.md rule R225). -/
def execCbSet4MemHl (s : State) : Result := setBit 4 .memHl s

/-- `SET 4,A`, 0xCB 0xE7 (44_rotate_shift_bit.md rule R224). -/
def execCbSet4A (s : State) : Result := setBit 4 (.reg .a) s

/-- `SET 5,B`, 0xCB 0xE8 (44_rotate_shift_bit.md rule R224). -/
def execCbSet5B (s : State) : Result := setBit 5 (.reg .b) s

/-- `SET 5,C`, 0xCB 0xE9 (44_rotate_shift_bit.md rule R224). -/
def execCbSet5C (s : State) : Result := setBit 5 (.reg .c) s

/-- `SET 5,D`, 0xCB 0xEA (44_rotate_shift_bit.md rule R224). -/
def execCbSet5D (s : State) : Result := setBit 5 (.reg .d) s

/-- `SET 5,E`, 0xCB 0xEB (44_rotate_shift_bit.md rule R224). -/
def execCbSet5E (s : State) : Result := setBit 5 (.reg .e) s

/-- `SET 5,H`, 0xCB 0xEC (44_rotate_shift_bit.md rule R224). -/
def execCbSet5H (s : State) : Result := setBit 5 (.reg .h) s

/-- `SET 5,L`, 0xCB 0xED (44_rotate_shift_bit.md rule R224). -/
def execCbSet5L (s : State) : Result := setBit 5 (.reg .l) s

/-- `SET 5,(HL)`, 0xCB 0xEE (44_rotate_shift_bit.md rule R225). -/
def execCbSet5MemHl (s : State) : Result := setBit 5 .memHl s

/-- `SET 5,A`, 0xCB 0xEF (44_rotate_shift_bit.md rule R224). -/
def execCbSet5A (s : State) : Result := setBit 5 (.reg .a) s

/-- `SET 6,B`, 0xCB 0xF0 (44_rotate_shift_bit.md rule R224). -/
def execCbSet6B (s : State) : Result := setBit 6 (.reg .b) s

/-- `SET 6,C`, 0xCB 0xF1 (44_rotate_shift_bit.md rule R224). -/
def execCbSet6C (s : State) : Result := setBit 6 (.reg .c) s

/-- `SET 6,D`, 0xCB 0xF2 (44_rotate_shift_bit.md rule R224). -/
def execCbSet6D (s : State) : Result := setBit 6 (.reg .d) s

/-- `SET 6,E`, 0xCB 0xF3 (44_rotate_shift_bit.md rule R224). -/
def execCbSet6E (s : State) : Result := setBit 6 (.reg .e) s

/-- `SET 6,H`, 0xCB 0xF4 (44_rotate_shift_bit.md rule R224). -/
def execCbSet6H (s : State) : Result := setBit 6 (.reg .h) s

/-- `SET 6,L`, 0xCB 0xF5 (44_rotate_shift_bit.md rule R224). -/
def execCbSet6L (s : State) : Result := setBit 6 (.reg .l) s

/-- `SET 6,(HL)`, 0xCB 0xF6 (44_rotate_shift_bit.md rule R225). -/
def execCbSet6MemHl (s : State) : Result := setBit 6 .memHl s

/-- `SET 6,A`, 0xCB 0xF7 (44_rotate_shift_bit.md rule R224). -/
def execCbSet6A (s : State) : Result := setBit 6 (.reg .a) s

/-- `SET 7,B`, 0xCB 0xF8 (44_rotate_shift_bit.md rule R224). -/
def execCbSet7B (s : State) : Result := setBit 7 (.reg .b) s

/-- `SET 7,C`, 0xCB 0xF9 (44_rotate_shift_bit.md rule R224). -/
def execCbSet7C (s : State) : Result := setBit 7 (.reg .c) s

/-- `SET 7,D`, 0xCB 0xFA (44_rotate_shift_bit.md rule R224). -/
def execCbSet7D (s : State) : Result := setBit 7 (.reg .d) s

/-- `SET 7,E`, 0xCB 0xFB (44_rotate_shift_bit.md rule R224). -/
def execCbSet7E (s : State) : Result := setBit 7 (.reg .e) s

/-- `SET 7,H`, 0xCB 0xFC (44_rotate_shift_bit.md rule R224). -/
def execCbSet7H (s : State) : Result := setBit 7 (.reg .h) s

/-- `SET 7,L`, 0xCB 0xFD (44_rotate_shift_bit.md rule R224). -/
def execCbSet7L (s : State) : Result := setBit 7 (.reg .l) s

/-- `SET 7,(HL)`, 0xCB 0xFE (44_rotate_shift_bit.md rule R225). -/
def execCbSet7MemHl (s : State) : Result := setBit 7 .memHl s

/-- `SET 7,A`, 0xCB 0xFF (44_rotate_shift_bit.md rule R224). -/
def execCbSet7A (s : State) : Result := setBit 7 (.reg .a) s

end Sys2Proof.Machine
end

