-- ==== Sys2Proof/Machine/Control.lean ====
section
/-! DEFINITION. Control transfers (45_control.md rules R230 to R241). The program counter already holds the address of the next
sequential instruction. -/

namespace Sys2Proof.Machine

/-- `JP a16` (45_control.md rule R230). -/
def jp (a16 : Word) (s : State) : Result := s.jump a16 16

/-- `JP cc,a16` (45_control.md rule R231). -/
def jpCc (cc : Cond) (a16 : Word) (s : State) : Result := if s.cpu.cond cc then s.jump a16 16 else s.done s.cpu 12

/-- `JR r8` (45_control.md rule R232). -/
def jr (r8 : Byte) (s : State) : Result := s.jump (s.cpu.pc + sext16 r8) 12

/-- `JR cc,r8` (45_control.md rule R233). -/
def jrCc (cc : Cond) (r8 : Byte) (s : State) : Result :=
  if s.cpu.cond cc then s.jump (s.cpu.pc + sext16 r8) 12 else s.done s.cpu 8

/-- `JP HL` (45_control.md rule R234). -/
def jpHl (s : State) : Result := s.jump s.cpu.hl 4

/-- A call: the return address pushed, then the target (45_control.md rules R235, R236, R241). -/
def callTo (target : Word) (cost : Nat) (s : State) : Result := (s.push16 s.cpu.pc).jump target cost

/-- A return: the program counter popped (45_control.md rules R237, R238). -/
def returnTo (cost : Nat) (s : State) : Result :=
  let v := s.pop16
  v.2.jump v.1 cost

/-- `CALL a16` (45_control.md rule R235). -/
def call (a16 : Word) (s : State) : Result := callTo a16 24 s

/-- `CALL cc,a16` (45_control.md rule R236). -/
def callCc (cc : Cond) (a16 : Word) (s : State) : Result := if s.cpu.cond cc then callTo a16 24 s else s.done s.cpu 12

/-- `RST t` (45_control.md rule R241): the target is `8 * t`. -/
def rst (t : BitVec 3) (s : State) : Result := callTo (BitVec.ofNat 16 (8 * t.toNat)) 16 s

/-- `RET` (45_control.md rule R237). -/
def ret (s : State) : Result := returnTo 16 s

/-- `RET cc` (45_control.md rule R238). -/
def retCc (cc : Cond) (s : State) : Result := if s.cpu.cond cc then returnTo 20 s else s.done s.cpu 8

/-- `RETI` (45_control.md rule R239). -/
def reti (s : State) : Result :=
  let t := s.returnFromInterrupt
  t.done t.cpu 16

/-- `JR r8`, 0x18 (45_control.md rule R232). -/
def execJrR8 (r8 : Byte) (s : State) : Result := jr r8 s

/-- `JR NZ,r8`, 0x20 (45_control.md rule R233). -/
def execJrNzR8 (r8 : Byte) (s : State) : Result := jrCc .nz r8 s

/-- `JR Z,r8`, 0x28 (45_control.md rule R233). -/
def execJrZR8 (r8 : Byte) (s : State) : Result := jrCc .z r8 s

/-- `JR NC,r8`, 0x30 (45_control.md rule R233). -/
def execJrNcR8 (r8 : Byte) (s : State) : Result := jrCc .nc r8 s

/-- `JR C,r8`, 0x38 (45_control.md rule R233). -/
def execJrCR8 (r8 : Byte) (s : State) : Result := jrCc .c r8 s

/-- `JP NZ,a16`, 0xC2 (45_control.md rule R231). -/
def execJpNzA16 (a16 : Word) (s : State) : Result := jpCc .nz a16 s

/-- `JP a16`, 0xC3 (45_control.md rule R230). -/
def execJpA16 (a16 : Word) (s : State) : Result := jp a16 s

/-- `CALL NZ,a16`, 0xC4 (45_control.md rule R236). -/
def execCallNzA16 (a16 : Word) (s : State) : Result := callCc .nz a16 s

/-- `JP Z,a16`, 0xCA (45_control.md rule R231). -/
def execJpZA16 (a16 : Word) (s : State) : Result := jpCc .z a16 s

/-- `CALL Z,a16`, 0xCC (45_control.md rule R236). -/
def execCallZA16 (a16 : Word) (s : State) : Result := callCc .z a16 s

/-- `CALL a16`, 0xCD (45_control.md rule R235). -/
def execCallA16 (a16 : Word) (s : State) : Result := call a16 s

/-- `JP NC,a16`, 0xD2 (45_control.md rule R231). -/
def execJpNcA16 (a16 : Word) (s : State) : Result := jpCc .nc a16 s

/-- `CALL NC,a16`, 0xD4 (45_control.md rule R236). -/
def execCallNcA16 (a16 : Word) (s : State) : Result := callCc .nc a16 s

/-- `JP C,a16`, 0xDA (45_control.md rule R231). -/
def execJpCA16 (a16 : Word) (s : State) : Result := jpCc .c a16 s

/-- `CALL C,a16`, 0xDC (45_control.md rule R236). -/
def execCallCA16 (a16 : Word) (s : State) : Result := callCc .c a16 s

/-- `RET NZ`, 0xC0 (45_control.md rule R238). -/
def execRetNz (s : State) : Result := retCc .nz s

/-- `RST 00H`, 0xC7 (45_control.md rule R241). -/
def execRst00 (s : State) : Result := rst 0 s

/-- `RET Z`, 0xC8 (45_control.md rule R238). -/
def execRetZ (s : State) : Result := retCc .z s

/-- `RET`, 0xC9 (45_control.md rule R237). -/
def execRet (s : State) : Result := ret s

/-- `RST 08H`, 0xCF (45_control.md rule R241). -/
def execRst08 (s : State) : Result := rst 1 s

/-- `RET NC`, 0xD0 (45_control.md rule R238). -/
def execRetNc (s : State) : Result := retCc .nc s

/-- `RST 10H`, 0xD7 (45_control.md rule R241). -/
def execRst10 (s : State) : Result := rst 2 s

/-- `RET C`, 0xD8 (45_control.md rule R238). -/
def execRetC (s : State) : Result := retCc .c s

/-- `RETI`, 0xD9 (45_control.md rule R239). -/
def execReti (s : State) : Result := reti s

/-- `RST 18H`, 0xDF (45_control.md rule R241). -/
def execRst18 (s : State) : Result := rst 3 s

/-- `RST 20H`, 0xE7 (45_control.md rule R241). -/
def execRst20 (s : State) : Result := rst 4 s

/-- `JP HL`, 0xE9 (45_control.md rule R234). -/
def execJpHl (s : State) : Result := jpHl s

/-- `RST 28H`, 0xEF (45_control.md rule R241). -/
def execRst28 (s : State) : Result := rst 5 s

/-- `RST 30H`, 0xF7 (45_control.md rule R241). -/
def execRst30 (s : State) : Result := rst 6 s

/-- `RST 38H`, 0xFF (45_control.md rule R241). -/
def execRst38 (s : State) : Result := rst 7 s

end Sys2Proof.Machine
end

