-- ==== Sys2Proof/Machine/Load16.lean ====
section
/-! DEFINITION. The 16-bit loads and the stack instructions (41_load16_stack.md rules R140 to R147). -/

namespace Sys2Proof.Machine

/-- `LD rr,d16` (41_load16_stack.md rule R140). -/
def ldPairImm (rr : Pair) (d16 : Word) (s : State) : Result := s.done (s.cpu.setPair rr d16) 12

/-- `LD SP,HL` (41_load16_stack.md rule R141). -/
def ldSpHl (s : State) : Result := s.done { s.cpu with sp := s.cpu.hl } 8

/-- `LD (a16),SP` (41_load16_stack.md rule R142): the low byte first. -/
def ldAbsSp (a16 : Word) (s : State) : Result :=
  let t := (s.write a16 (lowByte s.cpu.sp)).write (a16 + 1) (highByte s.cpu.sp)
  t.done t.cpu 20

/-- `PUSH qq`, `PUSH AF` (41_load16_stack.md rules R143, R144). -/
def push (qq : StackPair) (s : State) : Result :=
  let t := s.push16 (s.cpu.stackPair qq)
  t.done t.cpu 16

/-- `POP qq`, `POP AF` (41_load16_stack.md rules R145, R146). -/
def pop (qq : StackPair) (s : State) : Result :=
  let v := s.pop16
  v.2.done (v.2.cpu.setStackPair qq v.1) 12

/-- `LD HL,SP+r8` (41_load16_stack.md rule R147). -/
def ldHlSp (r8 : Byte) (s : State) : Result :=
  s.done
    ((s.cpu.setHl (s.cpu.sp + sext16 r8)).setFlags false false (addSpHalf s.cpu.sp r8) (addSpCarry s.cpu.sp r8)) 12

/-- `LD BC,d16`, 0x01 (41_load16_stack.md rule R140). -/
def execLdBcD16 (d16 : Word) (s : State) : Result := ldPairImm .bc d16 s

/-- `LD (a16),SP`, 0x08 (41_load16_stack.md rule R142). -/
def execLdMemA16Sp (a16 : Word) (s : State) : Result := ldAbsSp a16 s

/-- `LD DE,d16`, 0x11 (41_load16_stack.md rule R140). -/
def execLdDeD16 (d16 : Word) (s : State) : Result := ldPairImm .de d16 s

/-- `LD HL,d16`, 0x21 (41_load16_stack.md rule R140). -/
def execLdHlD16 (d16 : Word) (s : State) : Result := ldPairImm .hl d16 s

/-- `LD SP,d16`, 0x31 (41_load16_stack.md rule R140). -/
def execLdSpD16 (d16 : Word) (s : State) : Result := ldPairImm .sp d16 s

/-- `LD HL,SP+r8`, 0xF8 (41_load16_stack.md rule R147). -/
def execLdHlSpR8 (r8 : Byte) (s : State) : Result := ldHlSp r8 s

/-- `POP BC`, 0xC1 (41_load16_stack.md rule R145). -/
def execPopBc (s : State) : Result := pop .bc s

/-- `PUSH BC`, 0xC5 (41_load16_stack.md rule R143). -/
def execPushBc (s : State) : Result := push .bc s

/-- `POP DE`, 0xD1 (41_load16_stack.md rule R145). -/
def execPopDe (s : State) : Result := pop .de s

/-- `PUSH DE`, 0xD5 (41_load16_stack.md rule R143). -/
def execPushDe (s : State) : Result := push .de s

/-- `POP HL`, 0xE1 (41_load16_stack.md rule R145). -/
def execPopHl (s : State) : Result := pop .hl s

/-- `PUSH HL`, 0xE5 (41_load16_stack.md rule R143). -/
def execPushHl (s : State) : Result := push .hl s

/-- `POP AF`, 0xF1 (41_load16_stack.md rule R146). -/
def execPopAf (s : State) : Result := pop .af s

/-- `PUSH AF`, 0xF5 (41_load16_stack.md rule R144). -/
def execPushAf (s : State) : Result := push .af s

/-- `LD SP,HL`, 0xF9 (41_load16_stack.md rule R141). -/
def execLdSpHl (s : State) : Result := ldSpHl s

end Sys2Proof.Machine
end

