-- ==== Sys2Proof/Machine/Load8.lean ====
section
/-! DEFINITION. The 8-bit loads (40_load8.md rules R120 to R137): one shared operation per rule, one meaning per instruction. -/

namespace Sys2Proof.Machine

/-- `LD d,s` (40_load8.md rule R120). -/
def ldRegReg (d src : Reg8) (s : State) : Result := s.done (s.cpu.setReg d (s.cpu.reg src)) 4

/-- `LD r,d8` (40_load8.md rule R121). -/
def ldRegImm (r : Reg8) (d8 : Byte) (s : State) : Result := s.done (s.cpu.setReg r d8) 8

/-- `LD d,(HL)` (40_load8.md rule R123). -/
def ldRegMem (d : Reg8) (s : State) : Result :=
  let v := s.read s.cpu.hl
  v.2.done (v.2.cpu.setReg d v.1) 8

/-- `LD (HL),s` (40_load8.md rule R124). -/
def ldMemReg (src : Reg8) (s : State) : Result :=
  let t := s.write s.cpu.hl (s.cpu.reg src)
  t.done t.cpu 8

/-- `LD (HL),d8` (40_load8.md rule R125). -/
def ldMemImm (d8 : Byte) (s : State) : Result :=
  let t := s.write s.cpu.hl d8
  t.done t.cpu 12

/-- `LD A,(BC)`, `LD A,(DE)`, `LD A,(HL+)`, `LD A,(HL-)` (40_load8.md rules R126, R136, R137). -/
def ldAPtr (p : Ptr) (s : State) : Result :=
  let v := s.read (s.cpu.ptrAddr p)
  v.2.done ({ v.2.cpu with a := v.1 }.ptrAfter p) 8

/-- `LD (BC),A`, `LD (DE),A`, `LD (HL+),A`, `LD (HL-),A` (40_load8.md rules R127, R134, R135). -/
def ldPtrA (p : Ptr) (s : State) : Result :=
  let t := s.write (s.cpu.ptrAddr p) s.cpu.a
  t.done (t.cpu.ptrAfter p) 8

/-- A load of `A` from an address, with its cost (40_load8.md rules R128, R131, R133). -/
def loadA (addr : Word) (cost : Nat) (s : State) : Result :=
  let v := s.read addr
  v.2.done { v.2.cpu with a := v.1 } cost

/-- A store of `A` to an address, with its cost (40_load8.md rules R129, R130, R132). -/
def storeA (addr : Word) (cost : Nat) (s : State) : Result :=
  let t := s.write addr s.cpu.a
  t.done t.cpu cost

/-- `LD A,(a16)` (40_load8.md rule R128). -/
def ldAAbs (a16 : Word) (s : State) : Result := loadA a16 16 s

/-- `LD (a16),A` (40_load8.md rule R129). -/
def ldAbsA (a16 : Word) (s : State) : Result := storeA a16 16 s

/-- `LDH (a8),A` (40_load8.md rule R130). -/
def ldhStore (a8 : Byte) (s : State) : Result := storeA (highPage a8) 12 s

/-- `LDH A,(a8)` (40_load8.md rule R131). -/
def ldhLoad (a8 : Byte) (s : State) : Result := loadA (highPage a8) 12 s

/-- `LD (C),A` (40_load8.md rule R132). -/
def ldHighCA (s : State) : Result := storeA (highPage s.cpu.c) 8 s

/-- `LD A,(C)` (40_load8.md rule R133). -/
def ldAHighC (s : State) : Result := loadA (highPage s.cpu.c) 8 s

/-- `LD B,d8`, 0x06 (40_load8.md rule R121). -/
def execLdBD8 (d8 : Byte) (s : State) : Result := ldRegImm .b d8 s

/-- `LD C,d8`, 0x0E (40_load8.md rule R121). -/
def execLdCD8 (d8 : Byte) (s : State) : Result := ldRegImm .c d8 s

/-- `LD D,d8`, 0x16 (40_load8.md rule R121). -/
def execLdDD8 (d8 : Byte) (s : State) : Result := ldRegImm .d d8 s

/-- `LD E,d8`, 0x1E (40_load8.md rule R121). -/
def execLdED8 (d8 : Byte) (s : State) : Result := ldRegImm .e d8 s

/-- `LD H,d8`, 0x26 (40_load8.md rule R121). -/
def execLdHD8 (d8 : Byte) (s : State) : Result := ldRegImm .h d8 s

/-- `LD L,d8`, 0x2E (40_load8.md rule R121). -/
def execLdLD8 (d8 : Byte) (s : State) : Result := ldRegImm .l d8 s

/-- `LD (HL),d8`, 0x36 (40_load8.md rule R125). -/
def execLdMemHlD8 (d8 : Byte) (s : State) : Result := ldMemImm d8 s

/-- `LD A,d8`, 0x3E (40_load8.md rule R121). -/
def execLdAD8 (d8 : Byte) (s : State) : Result := ldRegImm .a d8 s

/-- `LDH (a8),A`, 0xE0 (40_load8.md rule R130). -/
def execLdhMemA8A (a8 : Byte) (s : State) : Result := ldhStore a8 s

/-- `LD (a16),A`, 0xEA (40_load8.md rule R129). -/
def execLdMemA16A (a16 : Word) (s : State) : Result := ldAbsA a16 s

/-- `LDH A,(a8)`, 0xF0 (40_load8.md rule R131). -/
def execLdhAMemA8 (a8 : Byte) (s : State) : Result := ldhLoad a8 s

/-- `LD A,(a16)`, 0xFA (40_load8.md rule R128). -/
def execLdAMemA16 (a16 : Word) (s : State) : Result := ldAAbs a16 s

/-- `LD (BC),A`, 0x02 (40_load8.md rule R127). -/
def execLdMemBcA (s : State) : Result := ldPtrA .bc s

/-- `LD A,(BC)`, 0x0A (40_load8.md rule R126). -/
def execLdAMemBc (s : State) : Result := ldAPtr .bc s

/-- `LD (DE),A`, 0x12 (40_load8.md rule R127). -/
def execLdMemDeA (s : State) : Result := ldPtrA .de s

/-- `LD A,(DE)`, 0x1A (40_load8.md rule R126). -/
def execLdAMemDe (s : State) : Result := ldAPtr .de s

/-- `LD (HL+),A`, 0x22 (40_load8.md rule R134). -/
def execLdMemHlIncA (s : State) : Result := ldPtrA .hlInc s

/-- `LD A,(HL+)`, 0x2A (40_load8.md rule R136). -/
def execLdAMemHlInc (s : State) : Result := ldAPtr .hlInc s

/-- `LD (HL-),A`, 0x32 (40_load8.md rule R135). -/
def execLdMemHlDecA (s : State) : Result := ldPtrA .hlDec s

/-- `LD A,(HL-)`, 0x3A (40_load8.md rule R137). -/
def execLdAMemHlDec (s : State) : Result := ldAPtr .hlDec s

/-- `LD B,B`, 0x40 (40_load8.md rule R120). -/
def execLdBB (s : State) : Result := ldRegReg .b .b s

/-- `LD B,C`, 0x41 (40_load8.md rule R120). -/
def execLdBC (s : State) : Result := ldRegReg .b .c s

/-- `LD B,D`, 0x42 (40_load8.md rule R120). -/
def execLdBD (s : State) : Result := ldRegReg .b .d s

/-- `LD B,E`, 0x43 (40_load8.md rule R120). -/
def execLdBE (s : State) : Result := ldRegReg .b .e s

/-- `LD B,H`, 0x44 (40_load8.md rule R120). -/
def execLdBH (s : State) : Result := ldRegReg .b .h s

/-- `LD B,L`, 0x45 (40_load8.md rule R120). -/
def execLdBL (s : State) : Result := ldRegReg .b .l s

/-- `LD B,(HL)`, 0x46 (40_load8.md rule R123). -/
def execLdBMemHl (s : State) : Result := ldRegMem .b s

/-- `LD B,A`, 0x47 (40_load8.md rule R120). -/
def execLdBA (s : State) : Result := ldRegReg .b .a s

/-- `LD C,B`, 0x48 (40_load8.md rule R120). -/
def execLdCB (s : State) : Result := ldRegReg .c .b s

/-- `LD C,C`, 0x49 (40_load8.md rule R120). -/
def execLdCC (s : State) : Result := ldRegReg .c .c s

/-- `LD C,D`, 0x4A (40_load8.md rule R120). -/
def execLdCD (s : State) : Result := ldRegReg .c .d s

/-- `LD C,E`, 0x4B (40_load8.md rule R120). -/
def execLdCE (s : State) : Result := ldRegReg .c .e s

/-- `LD C,H`, 0x4C (40_load8.md rule R120). -/
def execLdCH (s : State) : Result := ldRegReg .c .h s

/-- `LD C,L`, 0x4D (40_load8.md rule R120). -/
def execLdCL (s : State) : Result := ldRegReg .c .l s

/-- `LD C,(HL)`, 0x4E (40_load8.md rule R123). -/
def execLdCMemHl (s : State) : Result := ldRegMem .c s

/-- `LD C,A`, 0x4F (40_load8.md rule R120). -/
def execLdCA (s : State) : Result := ldRegReg .c .a s

/-- `LD D,B`, 0x50 (40_load8.md rule R120). -/
def execLdDB (s : State) : Result := ldRegReg .d .b s

/-- `LD D,C`, 0x51 (40_load8.md rule R120). -/
def execLdDC (s : State) : Result := ldRegReg .d .c s

/-- `LD D,D`, 0x52 (40_load8.md rule R120). -/
def execLdDD (s : State) : Result := ldRegReg .d .d s

/-- `LD D,E`, 0x53 (40_load8.md rule R120). -/
def execLdDE (s : State) : Result := ldRegReg .d .e s

/-- `LD D,H`, 0x54 (40_load8.md rule R120). -/
def execLdDH (s : State) : Result := ldRegReg .d .h s

/-- `LD D,L`, 0x55 (40_load8.md rule R120). -/
def execLdDL (s : State) : Result := ldRegReg .d .l s

/-- `LD D,(HL)`, 0x56 (40_load8.md rule R123). -/
def execLdDMemHl (s : State) : Result := ldRegMem .d s

/-- `LD D,A`, 0x57 (40_load8.md rule R120). -/
def execLdDA (s : State) : Result := ldRegReg .d .a s

/-- `LD E,B`, 0x58 (40_load8.md rule R120). -/
def execLdEB (s : State) : Result := ldRegReg .e .b s

/-- `LD E,C`, 0x59 (40_load8.md rule R120). -/
def execLdEC (s : State) : Result := ldRegReg .e .c s

/-- `LD E,D`, 0x5A (40_load8.md rule R120). -/
def execLdED (s : State) : Result := ldRegReg .e .d s

/-- `LD E,E`, 0x5B (40_load8.md rule R120). -/
def execLdEE (s : State) : Result := ldRegReg .e .e s

/-- `LD E,H`, 0x5C (40_load8.md rule R120). -/
def execLdEH (s : State) : Result := ldRegReg .e .h s

/-- `LD E,L`, 0x5D (40_load8.md rule R120). -/
def execLdEL (s : State) : Result := ldRegReg .e .l s

/-- `LD E,(HL)`, 0x5E (40_load8.md rule R123). -/
def execLdEMemHl (s : State) : Result := ldRegMem .e s

/-- `LD E,A`, 0x5F (40_load8.md rule R120). -/
def execLdEA (s : State) : Result := ldRegReg .e .a s

/-- `LD H,B`, 0x60 (40_load8.md rule R120). -/
def execLdHB (s : State) : Result := ldRegReg .h .b s

/-- `LD H,C`, 0x61 (40_load8.md rule R120). -/
def execLdHC (s : State) : Result := ldRegReg .h .c s

/-- `LD H,D`, 0x62 (40_load8.md rule R120). -/
def execLdHD (s : State) : Result := ldRegReg .h .d s

/-- `LD H,E`, 0x63 (40_load8.md rule R120). -/
def execLdHE (s : State) : Result := ldRegReg .h .e s

/-- `LD H,H`, 0x64 (40_load8.md rule R120). -/
def execLdHH (s : State) : Result := ldRegReg .h .h s

/-- `LD H,L`, 0x65 (40_load8.md rule R120). -/
def execLdHL (s : State) : Result := ldRegReg .h .l s

/-- `LD H,(HL)`, 0x66 (40_load8.md rule R123). -/
def execLdHMemHl (s : State) : Result := ldRegMem .h s

/-- `LD H,A`, 0x67 (40_load8.md rule R120). -/
def execLdHA (s : State) : Result := ldRegReg .h .a s

/-- `LD L,B`, 0x68 (40_load8.md rule R120). -/
def execLdLB (s : State) : Result := ldRegReg .l .b s

/-- `LD L,C`, 0x69 (40_load8.md rule R120). -/
def execLdLC (s : State) : Result := ldRegReg .l .c s

/-- `LD L,D`, 0x6A (40_load8.md rule R120). -/
def execLdLD (s : State) : Result := ldRegReg .l .d s

/-- `LD L,E`, 0x6B (40_load8.md rule R120). -/
def execLdLE (s : State) : Result := ldRegReg .l .e s

/-- `LD L,H`, 0x6C (40_load8.md rule R120). -/
def execLdLH (s : State) : Result := ldRegReg .l .h s

/-- `LD L,L`, 0x6D (40_load8.md rule R120). -/
def execLdLL (s : State) : Result := ldRegReg .l .l s

/-- `LD L,(HL)`, 0x6E (40_load8.md rule R123). -/
def execLdLMemHl (s : State) : Result := ldRegMem .l s

/-- `LD L,A`, 0x6F (40_load8.md rule R120). -/
def execLdLA (s : State) : Result := ldRegReg .l .a s

/-- `LD (HL),B`, 0x70 (40_load8.md rule R124). -/
def execLdMemHlB (s : State) : Result := ldMemReg .b s

/-- `LD (HL),C`, 0x71 (40_load8.md rule R124). -/
def execLdMemHlC (s : State) : Result := ldMemReg .c s

/-- `LD (HL),D`, 0x72 (40_load8.md rule R124). -/
def execLdMemHlD (s : State) : Result := ldMemReg .d s

/-- `LD (HL),E`, 0x73 (40_load8.md rule R124). -/
def execLdMemHlE (s : State) : Result := ldMemReg .e s

/-- `LD (HL),H`, 0x74 (40_load8.md rule R124). -/
def execLdMemHlH (s : State) : Result := ldMemReg .h s

/-- `LD (HL),L`, 0x75 (40_load8.md rule R124). -/
def execLdMemHlL (s : State) : Result := ldMemReg .l s

/-- `LD (HL),A`, 0x77 (40_load8.md rule R124). -/
def execLdMemHlA (s : State) : Result := ldMemReg .a s

/-- `LD A,B`, 0x78 (40_load8.md rule R120). -/
def execLdAB (s : State) : Result := ldRegReg .a .b s

/-- `LD A,C`, 0x79 (40_load8.md rule R120). -/
def execLdAC (s : State) : Result := ldRegReg .a .c s

/-- `LD A,D`, 0x7A (40_load8.md rule R120). -/
def execLdAD (s : State) : Result := ldRegReg .a .d s

/-- `LD A,E`, 0x7B (40_load8.md rule R120). -/
def execLdAE (s : State) : Result := ldRegReg .a .e s

/-- `LD A,H`, 0x7C (40_load8.md rule R120). -/
def execLdAH (s : State) : Result := ldRegReg .a .h s

/-- `LD A,L`, 0x7D (40_load8.md rule R120). -/
def execLdAL (s : State) : Result := ldRegReg .a .l s

/-- `LD A,(HL)`, 0x7E (40_load8.md rule R123). -/
def execLdAMemHl (s : State) : Result := ldRegMem .a s

/-- `LD A,A`, 0x7F (40_load8.md rule R120). -/
def execLdAA (s : State) : Result := ldRegReg .a .a s

/-- `LD (C),A`, 0xE2 (40_load8.md rule R132). -/
def execLdMemCA (s : State) : Result := ldHighCA s

/-- `LD A,(C)`, 0xF2 (40_load8.md rule R133). -/
def execLdAMemC (s : State) : Result := ldAHighC s

end Sys2Proof.Machine
end

