-- ==== Sys2Proof/Machine/Rotate.lean ====
section
/-! DEFINITION. Rotates, shifts and swap (44_rotate_shift_bit.md rules R200 to R219). -/

namespace Sys2Proof.Machine

/-- `RLCA`, `RRCA`, `RLA`, `RRA` (44_rotate_shift_bit.md rules R200 to R203). -/
def rotA (op : RotOp) (s : State) : Result :=
  let x := shiftCompute (rotShift op) s.cpu.a s.cpu.fC
  s.done ({ s.cpu with a := x.1 }.setFlags false false false x.2) 4

/-- The secondary rotates, shifts and swap of a register or `(HL)` (44_rotate_shift_bit.md rules R204 to R219). -/
def shift (op : ShiftOp) (o : Opnd8) (s : State) : Result :=
  let v := s.readOpnd o
  let x := shiftCompute op v.1 v.2.cpu.fC
  let t := v.2.writeOpnd o x.1
  t.done (t.cpu.setFlags (x.1 == 0) false false x.2) (opndCost o 8 16)

/-- `RLCA`, 0x07 (44_rotate_shift_bit.md rule R200). -/
def execRlca (s : State) : Result := rotA .rlc s

/-- `RRCA`, 0x0F (44_rotate_shift_bit.md rule R201). -/
def execRrca (s : State) : Result := rotA .rrc s

/-- `RLA`, 0x17 (44_rotate_shift_bit.md rule R202). -/
def execRla (s : State) : Result := rotA .rl s

/-- `RRA`, 0x1F (44_rotate_shift_bit.md rule R203). -/
def execRra (s : State) : Result := rotA .rr s

/-- `RLC B`, 0xCB 0x00 (44_rotate_shift_bit.md rule R204). -/
def execCbRlcB (s : State) : Result := shift .rlc (.reg .b) s

/-- `RLC C`, 0xCB 0x01 (44_rotate_shift_bit.md rule R204). -/
def execCbRlcC (s : State) : Result := shift .rlc (.reg .c) s

/-- `RLC D`, 0xCB 0x02 (44_rotate_shift_bit.md rule R204). -/
def execCbRlcD (s : State) : Result := shift .rlc (.reg .d) s

/-- `RLC E`, 0xCB 0x03 (44_rotate_shift_bit.md rule R204). -/
def execCbRlcE (s : State) : Result := shift .rlc (.reg .e) s

/-- `RLC H`, 0xCB 0x04 (44_rotate_shift_bit.md rule R204). -/
def execCbRlcH (s : State) : Result := shift .rlc (.reg .h) s

/-- `RLC L`, 0xCB 0x05 (44_rotate_shift_bit.md rule R204). -/
def execCbRlcL (s : State) : Result := shift .rlc (.reg .l) s

/-- `RLC (HL)`, 0xCB 0x06 (44_rotate_shift_bit.md rule R205). -/
def execCbRlcMemHl (s : State) : Result := shift .rlc .memHl s

/-- `RLC A`, 0xCB 0x07 (44_rotate_shift_bit.md rule R204). -/
def execCbRlcA (s : State) : Result := shift .rlc (.reg .a) s

/-- `RRC B`, 0xCB 0x08 (44_rotate_shift_bit.md rule R206). -/
def execCbRrcB (s : State) : Result := shift .rrc (.reg .b) s

/-- `RRC C`, 0xCB 0x09 (44_rotate_shift_bit.md rule R206). -/
def execCbRrcC (s : State) : Result := shift .rrc (.reg .c) s

/-- `RRC D`, 0xCB 0x0A (44_rotate_shift_bit.md rule R206). -/
def execCbRrcD (s : State) : Result := shift .rrc (.reg .d) s

/-- `RRC E`, 0xCB 0x0B (44_rotate_shift_bit.md rule R206). -/
def execCbRrcE (s : State) : Result := shift .rrc (.reg .e) s

/-- `RRC H`, 0xCB 0x0C (44_rotate_shift_bit.md rule R206). -/
def execCbRrcH (s : State) : Result := shift .rrc (.reg .h) s

/-- `RRC L`, 0xCB 0x0D (44_rotate_shift_bit.md rule R206). -/
def execCbRrcL (s : State) : Result := shift .rrc (.reg .l) s

/-- `RRC (HL)`, 0xCB 0x0E (44_rotate_shift_bit.md rule R207). -/
def execCbRrcMemHl (s : State) : Result := shift .rrc .memHl s

/-- `RRC A`, 0xCB 0x0F (44_rotate_shift_bit.md rule R206). -/
def execCbRrcA (s : State) : Result := shift .rrc (.reg .a) s

/-- `RL B`, 0xCB 0x10 (44_rotate_shift_bit.md rule R208). -/
def execCbRlB (s : State) : Result := shift .rl (.reg .b) s

/-- `RL C`, 0xCB 0x11 (44_rotate_shift_bit.md rule R208). -/
def execCbRlC (s : State) : Result := shift .rl (.reg .c) s

/-- `RL D`, 0xCB 0x12 (44_rotate_shift_bit.md rule R208). -/
def execCbRlD (s : State) : Result := shift .rl (.reg .d) s

/-- `RL E`, 0xCB 0x13 (44_rotate_shift_bit.md rule R208). -/
def execCbRlE (s : State) : Result := shift .rl (.reg .e) s

/-- `RL H`, 0xCB 0x14 (44_rotate_shift_bit.md rule R208). -/
def execCbRlH (s : State) : Result := shift .rl (.reg .h) s

/-- `RL L`, 0xCB 0x15 (44_rotate_shift_bit.md rule R208). -/
def execCbRlL (s : State) : Result := shift .rl (.reg .l) s

/-- `RL (HL)`, 0xCB 0x16 (44_rotate_shift_bit.md rule R209). -/
def execCbRlMemHl (s : State) : Result := shift .rl .memHl s

/-- `RL A`, 0xCB 0x17 (44_rotate_shift_bit.md rule R208). -/
def execCbRlA (s : State) : Result := shift .rl (.reg .a) s

/-- `RR B`, 0xCB 0x18 (44_rotate_shift_bit.md rule R210). -/
def execCbRrB (s : State) : Result := shift .rr (.reg .b) s

/-- `RR C`, 0xCB 0x19 (44_rotate_shift_bit.md rule R210). -/
def execCbRrC (s : State) : Result := shift .rr (.reg .c) s

/-- `RR D`, 0xCB 0x1A (44_rotate_shift_bit.md rule R210). -/
def execCbRrD (s : State) : Result := shift .rr (.reg .d) s

/-- `RR E`, 0xCB 0x1B (44_rotate_shift_bit.md rule R210). -/
def execCbRrE (s : State) : Result := shift .rr (.reg .e) s

/-- `RR H`, 0xCB 0x1C (44_rotate_shift_bit.md rule R210). -/
def execCbRrH (s : State) : Result := shift .rr (.reg .h) s

/-- `RR L`, 0xCB 0x1D (44_rotate_shift_bit.md rule R210). -/
def execCbRrL (s : State) : Result := shift .rr (.reg .l) s

/-- `RR (HL)`, 0xCB 0x1E (44_rotate_shift_bit.md rule R211). -/
def execCbRrMemHl (s : State) : Result := shift .rr .memHl s

/-- `RR A`, 0xCB 0x1F (44_rotate_shift_bit.md rule R210). -/
def execCbRrA (s : State) : Result := shift .rr (.reg .a) s

/-- `SLA B`, 0xCB 0x20 (44_rotate_shift_bit.md rule R212). -/
def execCbSlaB (s : State) : Result := shift .sla (.reg .b) s

/-- `SLA C`, 0xCB 0x21 (44_rotate_shift_bit.md rule R212). -/
def execCbSlaC (s : State) : Result := shift .sla (.reg .c) s

/-- `SLA D`, 0xCB 0x22 (44_rotate_shift_bit.md rule R212). -/
def execCbSlaD (s : State) : Result := shift .sla (.reg .d) s

/-- `SLA E`, 0xCB 0x23 (44_rotate_shift_bit.md rule R212). -/
def execCbSlaE (s : State) : Result := shift .sla (.reg .e) s

/-- `SLA H`, 0xCB 0x24 (44_rotate_shift_bit.md rule R212). -/
def execCbSlaH (s : State) : Result := shift .sla (.reg .h) s

/-- `SLA L`, 0xCB 0x25 (44_rotate_shift_bit.md rule R212). -/
def execCbSlaL (s : State) : Result := shift .sla (.reg .l) s

/-- `SLA (HL)`, 0xCB 0x26 (44_rotate_shift_bit.md rule R213). -/
def execCbSlaMemHl (s : State) : Result := shift .sla .memHl s

/-- `SLA A`, 0xCB 0x27 (44_rotate_shift_bit.md rule R212). -/
def execCbSlaA (s : State) : Result := shift .sla (.reg .a) s

/-- `SRA B`, 0xCB 0x28 (44_rotate_shift_bit.md rule R214). -/
def execCbSraB (s : State) : Result := shift .sra (.reg .b) s

/-- `SRA C`, 0xCB 0x29 (44_rotate_shift_bit.md rule R214). -/
def execCbSraC (s : State) : Result := shift .sra (.reg .c) s

/-- `SRA D`, 0xCB 0x2A (44_rotate_shift_bit.md rule R214). -/
def execCbSraD (s : State) : Result := shift .sra (.reg .d) s

/-- `SRA E`, 0xCB 0x2B (44_rotate_shift_bit.md rule R214). -/
def execCbSraE (s : State) : Result := shift .sra (.reg .e) s

/-- `SRA H`, 0xCB 0x2C (44_rotate_shift_bit.md rule R214). -/
def execCbSraH (s : State) : Result := shift .sra (.reg .h) s

/-- `SRA L`, 0xCB 0x2D (44_rotate_shift_bit.md rule R214). -/
def execCbSraL (s : State) : Result := shift .sra (.reg .l) s

/-- `SRA (HL)`, 0xCB 0x2E (44_rotate_shift_bit.md rule R215). -/
def execCbSraMemHl (s : State) : Result := shift .sra .memHl s

/-- `SRA A`, 0xCB 0x2F (44_rotate_shift_bit.md rule R214). -/
def execCbSraA (s : State) : Result := shift .sra (.reg .a) s

/-- `SWAP B`, 0xCB 0x30 (44_rotate_shift_bit.md rule R216). -/
def execCbSwapB (s : State) : Result := shift .swap (.reg .b) s

/-- `SWAP C`, 0xCB 0x31 (44_rotate_shift_bit.md rule R216). -/
def execCbSwapC (s : State) : Result := shift .swap (.reg .c) s

/-- `SWAP D`, 0xCB 0x32 (44_rotate_shift_bit.md rule R216). -/
def execCbSwapD (s : State) : Result := shift .swap (.reg .d) s

/-- `SWAP E`, 0xCB 0x33 (44_rotate_shift_bit.md rule R216). -/
def execCbSwapE (s : State) : Result := shift .swap (.reg .e) s

/-- `SWAP H`, 0xCB 0x34 (44_rotate_shift_bit.md rule R216). -/
def execCbSwapH (s : State) : Result := shift .swap (.reg .h) s

/-- `SWAP L`, 0xCB 0x35 (44_rotate_shift_bit.md rule R216). -/
def execCbSwapL (s : State) : Result := shift .swap (.reg .l) s

/-- `SWAP (HL)`, 0xCB 0x36 (44_rotate_shift_bit.md rule R217). -/
def execCbSwapMemHl (s : State) : Result := shift .swap .memHl s

/-- `SWAP A`, 0xCB 0x37 (44_rotate_shift_bit.md rule R216). -/
def execCbSwapA (s : State) : Result := shift .swap (.reg .a) s

/-- `SRL B`, 0xCB 0x38 (44_rotate_shift_bit.md rule R218). -/
def execCbSrlB (s : State) : Result := shift .srl (.reg .b) s

/-- `SRL C`, 0xCB 0x39 (44_rotate_shift_bit.md rule R218). -/
def execCbSrlC (s : State) : Result := shift .srl (.reg .c) s

/-- `SRL D`, 0xCB 0x3A (44_rotate_shift_bit.md rule R218). -/
def execCbSrlD (s : State) : Result := shift .srl (.reg .d) s

/-- `SRL E`, 0xCB 0x3B (44_rotate_shift_bit.md rule R218). -/
def execCbSrlE (s : State) : Result := shift .srl (.reg .e) s

/-- `SRL H`, 0xCB 0x3C (44_rotate_shift_bit.md rule R218). -/
def execCbSrlH (s : State) : Result := shift .srl (.reg .h) s

/-- `SRL L`, 0xCB 0x3D (44_rotate_shift_bit.md rule R218). -/
def execCbSrlL (s : State) : Result := shift .srl (.reg .l) s

/-- `SRL (HL)`, 0xCB 0x3E (44_rotate_shift_bit.md rule R219). -/
def execCbSrlMemHl (s : State) : Result := shift .srl .memHl s

/-- `SRL A`, 0xCB 0x3F (44_rotate_shift_bit.md rule R218). -/
def execCbSrlA (s : State) : Result := shift .srl (.reg .a) s

end Sys2Proof.Machine
end

