-- ==== Sys2Proof/Machine/System.lean ====
section
/-! DEFINITION. NOP, HALT, STOP, DI, EI (46_misc.md rules R250 to R254), the unassigned opcodes (30_encoding.md rule R105) and
the escape row (30_encoding.md rule R104). -/

namespace Sys2Proof.Machine

/-- `NOP` (46_misc.md rule R250). -/
def nop (s : State) : Result := s.done s.cpu 4

/-- `HALT` (46_misc.md rule R251). -/
def halt (s : State) : Result := s.done { s.cpu with run := .halted } 4

/-- `STOP` (46_misc.md rule R252, the spec's decision D15): its second byte is fetched and ignored. -/
def stop (_d8 : Byte) (s : State) : Result := s.done s.cpu 4

/-- `DI` (46_misc.md rule R253). -/
def di (s : State) : Result := s.done { s.cpu with ime := false, eiDelay := false } 4

/-- `EI` (46_misc.md rule R254): the enable takes effect one instruction later (`State.settleEnable`). -/
def ei (s : State) : Result := s.done (if s.cpu.ime then s.cpu else { s.cpu with eiDelay := true }) 4

/-- An unassigned opcode (30_encoding.md rule R105): a fault with the opcode and the address it was fetched from; the
program counter has been advanced past it. -/
def unassigned (op : Byte) (s : State) : Result := .fault (.illegalOpcode op (s.cpu.pc - 1))

/-- The secondary table's operation of `op2`, by its fields (30_encoding.md rule R107). -/
def secondary (op2 : Byte) (s : State) : Result :=
  let y := op2.extractLsb' 3 3
  let r := Opnd8.ofCode (op2.extractLsb' 0 3)
  match (op2.extractLsb' 6 2).toNat with
  | 0 => shift (.ofCode y) r s
  | 1 => bitTest y r s
  | 2 => resBit y r s
  | _ => setBit y r s

/-- The escape row (30_encoding.md rules R101, R104): "triggers a second fetch" and runs the secondary table's entry.
The decoder reads the escape and its second byte as one instruction, so this meaning is the same machine seen from the
point between the two fetches. -/
def escape (s : State) : Result :=
  let op2 := s.fetch8
  secondary op2.1 op2.2

/-- `STOP`, 0x10 (46_misc.md rule R252). -/
def execStop (d8 : Byte) (s : State) : Result := stop d8 s

/-- `NOP`, 0x00 (46_misc.md rule R250). -/
def execNop (s : State) : Result := nop s

/-- `HALT`, 0x76 (46_misc.md rule R251). -/
def execHalt (s : State) : Result := halt s

/-- `PREFIX CB`, 0xCB (30_encoding.md rule R104). -/
def execPrefixCb (s : State) : Result := escape s

/-- `ILLEGAL_D3`, 0xD3 (30_encoding.md rule R105). -/
def execIllegalD3 (s : State) : Result := unassigned 0xD3 s

/-- `ILLEGAL_DB`, 0xDB (30_encoding.md rule R105). -/
def execIllegalDB (s : State) : Result := unassigned 0xDB s

/-- `ILLEGAL_DD`, 0xDD (30_encoding.md rule R105). -/
def execIllegalDD (s : State) : Result := unassigned 0xDD s

/-- `ILLEGAL_E3`, 0xE3 (30_encoding.md rule R105). -/
def execIllegalE3 (s : State) : Result := unassigned 0xE3 s

/-- `ILLEGAL_E4`, 0xE4 (30_encoding.md rule R105). -/
def execIllegalE4 (s : State) : Result := unassigned 0xE4 s

/-- `ILLEGAL_EB`, 0xEB (30_encoding.md rule R105). -/
def execIllegalEB (s : State) : Result := unassigned 0xEB s

/-- `ILLEGAL_EC`, 0xEC (30_encoding.md rule R105). -/
def execIllegalEC (s : State) : Result := unassigned 0xEC s

/-- `ILLEGAL_ED`, 0xED (30_encoding.md rule R105). -/
def execIllegalED (s : State) : Result := unassigned 0xED s

/-- `DI`, 0xF3 (46_misc.md rule R253). -/
def execDi (s : State) : Result := di s

/-- `ILLEGAL_F4`, 0xF4 (30_encoding.md rule R105). -/
def execIllegalF4 (s : State) : Result := unassigned 0xF4 s

/-- `EI`, 0xFB (46_misc.md rule R254). -/
def execEi (s : State) : Result := ei s

/-- `ILLEGAL_FC`, 0xFC (30_encoding.md rule R105). -/
def execIllegalFC (s : State) : Result := unassigned 0xFC s

/-- `ILLEGAL_FD`, 0xFD (30_encoding.md rule R105). -/
def execIllegalFD (s : State) : Result := unassigned 0xFD s

end Sys2Proof.Machine
end

