-- ==== Sys2Proof/Machine/Dispatch.lean ====
section
/-! DEFINITION. The dispatch of one instruction to its meaning: one arm per constructor. -/

namespace Sys2Proof.Machine

def exec (i : Instr) (s : State) : Host.Outcome State Fault Refusal :=
  match i with
  | .ldBcD16 d16 => Sys2Proof.Machine.execLdBcD16 d16 s
  | .ldBD8 d8 => Sys2Proof.Machine.execLdBD8 d8 s
  | .ldMemA16Sp a16 => Sys2Proof.Machine.execLdMemA16Sp a16 s
  | .ldCD8 d8 => Sys2Proof.Machine.execLdCD8 d8 s
  | .stop d8 => Sys2Proof.Machine.execStop d8 s
  | .ldDeD16 d16 => Sys2Proof.Machine.execLdDeD16 d16 s
  | .ldDD8 d8 => Sys2Proof.Machine.execLdDD8 d8 s
  | .jrR8 r8 => Sys2Proof.Machine.execJrR8 r8 s
  | .ldED8 d8 => Sys2Proof.Machine.execLdED8 d8 s
  | .jrNzR8 r8 => Sys2Proof.Machine.execJrNzR8 r8 s
  | .ldHlD16 d16 => Sys2Proof.Machine.execLdHlD16 d16 s
  | .ldHD8 d8 => Sys2Proof.Machine.execLdHD8 d8 s
  | .jrZR8 r8 => Sys2Proof.Machine.execJrZR8 r8 s
  | .ldLD8 d8 => Sys2Proof.Machine.execLdLD8 d8 s
  | .jrNcR8 r8 => Sys2Proof.Machine.execJrNcR8 r8 s
  | .ldSpD16 d16 => Sys2Proof.Machine.execLdSpD16 d16 s
  | .ldMemHlD8 d8 => Sys2Proof.Machine.execLdMemHlD8 d8 s
  | .jrCR8 r8 => Sys2Proof.Machine.execJrCR8 r8 s
  | .ldAD8 d8 => Sys2Proof.Machine.execLdAD8 d8 s
  | .jpNzA16 a16 => Sys2Proof.Machine.execJpNzA16 a16 s
  | .jpA16 a16 => Sys2Proof.Machine.execJpA16 a16 s
  | .callNzA16 a16 => Sys2Proof.Machine.execCallNzA16 a16 s
  | .addAD8 d8 => Sys2Proof.Machine.execAddAD8 d8 s
  | .jpZA16 a16 => Sys2Proof.Machine.execJpZA16 a16 s
  | .callZA16 a16 => Sys2Proof.Machine.execCallZA16 a16 s
  | .callA16 a16 => Sys2Proof.Machine.execCallA16 a16 s
  | .adcAD8 d8 => Sys2Proof.Machine.execAdcAD8 d8 s
  | .jpNcA16 a16 => Sys2Proof.Machine.execJpNcA16 a16 s
  | .callNcA16 a16 => Sys2Proof.Machine.execCallNcA16 a16 s
  | .subD8 d8 => Sys2Proof.Machine.execSubD8 d8 s
  | .jpCA16 a16 => Sys2Proof.Machine.execJpCA16 a16 s
  | .callCA16 a16 => Sys2Proof.Machine.execCallCA16 a16 s
  | .sbcAD8 d8 => Sys2Proof.Machine.execSbcAD8 d8 s
  | .ldhMemA8A a8 => Sys2Proof.Machine.execLdhMemA8A a8 s
  | .andD8 d8 => Sys2Proof.Machine.execAndD8 d8 s
  | .addSpR8 r8 => Sys2Proof.Machine.execAddSpR8 r8 s
  | .ldMemA16A a16 => Sys2Proof.Machine.execLdMemA16A a16 s
  | .xorD8 d8 => Sys2Proof.Machine.execXorD8 d8 s
  | .ldhAMemA8 a8 => Sys2Proof.Machine.execLdhAMemA8 a8 s
  | .orD8 d8 => Sys2Proof.Machine.execOrD8 d8 s
  | .ldHlSpR8 r8 => Sys2Proof.Machine.execLdHlSpR8 r8 s
  | .ldAMemA16 a16 => Sys2Proof.Machine.execLdAMemA16 a16 s
  | .cpD8 d8 => Sys2Proof.Machine.execCpD8 d8 s
  | .nop => Sys2Proof.Machine.execNop s
  | .ldMemBcA => Sys2Proof.Machine.execLdMemBcA s
  | .incBc => Sys2Proof.Machine.execIncBc s
  | .incB => Sys2Proof.Machine.execIncB s
  | .decB => Sys2Proof.Machine.execDecB s
  | .rlca => Sys2Proof.Machine.execRlca s
  | .addHlBc => Sys2Proof.Machine.execAddHlBc s
  | .ldAMemBc => Sys2Proof.Machine.execLdAMemBc s
  | .decBc => Sys2Proof.Machine.execDecBc s
  | .incC => Sys2Proof.Machine.execIncC s
  | .decC => Sys2Proof.Machine.execDecC s
  | .rrca => Sys2Proof.Machine.execRrca s
  | .ldMemDeA => Sys2Proof.Machine.execLdMemDeA s
  | .incDe => Sys2Proof.Machine.execIncDe s
  | .incD => Sys2Proof.Machine.execIncD s
  | .decD => Sys2Proof.Machine.execDecD s
  | .rla => Sys2Proof.Machine.execRla s
  | .addHlDe => Sys2Proof.Machine.execAddHlDe s
  | .ldAMemDe => Sys2Proof.Machine.execLdAMemDe s
  | .decDe => Sys2Proof.Machine.execDecDe s
  | .incE => Sys2Proof.Machine.execIncE s
  | .decE => Sys2Proof.Machine.execDecE s
  | .rra => Sys2Proof.Machine.execRra s
  | .ldMemHlIncA => Sys2Proof.Machine.execLdMemHlIncA s
  | .incHl => Sys2Proof.Machine.execIncHl s
  | .incH => Sys2Proof.Machine.execIncH s
  | .decH => Sys2Proof.Machine.execDecH s
  | .daa => Sys2Proof.Machine.execDaa s
  | .addHlHl => Sys2Proof.Machine.execAddHlHl s
  | .ldAMemHlInc => Sys2Proof.Machine.execLdAMemHlInc s
  | .decHl => Sys2Proof.Machine.execDecHl s
  | .incL => Sys2Proof.Machine.execIncL s
  | .decL => Sys2Proof.Machine.execDecL s
  | .cplA => Sys2Proof.Machine.execCplA s
  | .ldMemHlDecA => Sys2Proof.Machine.execLdMemHlDecA s
  | .incSp => Sys2Proof.Machine.execIncSp s
  | .incMemHl => Sys2Proof.Machine.execIncMemHl s
  | .decMemHl => Sys2Proof.Machine.execDecMemHl s
  | .scf => Sys2Proof.Machine.execScf s
  | .addHlSp => Sys2Proof.Machine.execAddHlSp s
  | .ldAMemHlDec => Sys2Proof.Machine.execLdAMemHlDec s
  | .decSp => Sys2Proof.Machine.execDecSp s
  | .incA => Sys2Proof.Machine.execIncA s
  | .decA => Sys2Proof.Machine.execDecA s
  | .ccf => Sys2Proof.Machine.execCcf s
  | .ldBB => Sys2Proof.Machine.execLdBB s
  | .ldBC => Sys2Proof.Machine.execLdBC s
  | .ldBD => Sys2Proof.Machine.execLdBD s
  | .ldBE => Sys2Proof.Machine.execLdBE s
  | .ldBH => Sys2Proof.Machine.execLdBH s
  | .ldBL => Sys2Proof.Machine.execLdBL s
  | .ldBMemHl => Sys2Proof.Machine.execLdBMemHl s
  | .ldBA => Sys2Proof.Machine.execLdBA s
  | .ldCB => Sys2Proof.Machine.execLdCB s
  | .ldCC => Sys2Proof.Machine.execLdCC s
  | .ldCD => Sys2Proof.Machine.execLdCD s
  | .ldCE => Sys2Proof.Machine.execLdCE s
  | .ldCH => Sys2Proof.Machine.execLdCH s
  | .ldCL => Sys2Proof.Machine.execLdCL s
  | .ldCMemHl => Sys2Proof.Machine.execLdCMemHl s
  | .ldCA => Sys2Proof.Machine.execLdCA s
  | .ldDB => Sys2Proof.Machine.execLdDB s
  | .ldDC => Sys2Proof.Machine.execLdDC s
  | .ldDD => Sys2Proof.Machine.execLdDD s
  | .ldDE => Sys2Proof.Machine.execLdDE s
  | .ldDH => Sys2Proof.Machine.execLdDH s
  | .ldDL => Sys2Proof.Machine.execLdDL s
  | .ldDMemHl => Sys2Proof.Machine.execLdDMemHl s
  | .ldDA => Sys2Proof.Machine.execLdDA s
  | .ldEB => Sys2Proof.Machine.execLdEB s
  | .ldEC => Sys2Proof.Machine.execLdEC s
  | .ldED => Sys2Proof.Machine.execLdED s
  | .ldEE => Sys2Proof.Machine.execLdEE s
  | .ldEH => Sys2Proof.Machine.execLdEH s
  | .ldEL => Sys2Proof.Machine.execLdEL s
  | .ldEMemHl => Sys2Proof.Machine.execLdEMemHl s
  | .ldEA => Sys2Proof.Machine.execLdEA s
  | .ldHB => Sys2Proof.Machine.execLdHB s
  | .ldHC => Sys2Proof.Machine.execLdHC s
  | .ldHD => Sys2Proof.Machine.execLdHD s
  | .ldHE => Sys2Proof.Machine.execLdHE s
  | .ldHH => Sys2Proof.Machine.execLdHH s
  | .ldHL => Sys2Proof.Machine.execLdHL s
  | .ldHMemHl => Sys2Proof.Machine.execLdHMemHl s
  | .ldHA => Sys2Proof.Machine.execLdHA s
  | .ldLB => Sys2Proof.Machine.execLdLB s
  | .ldLC => Sys2Proof.Machine.execLdLC s
  | .ldLD => Sys2Proof.Machine.execLdLD s
  | .ldLE => Sys2Proof.Machine.execLdLE s
  | .ldLH => Sys2Proof.Machine.execLdLH s
  | .ldLL => Sys2Proof.Machine.execLdLL s
  | .ldLMemHl => Sys2Proof.Machine.execLdLMemHl s
  | .ldLA => Sys2Proof.Machine.execLdLA s
  | .ldMemHlB => Sys2Proof.Machine.execLdMemHlB s
  | .ldMemHlC => Sys2Proof.Machine.execLdMemHlC s
  | .ldMemHlD => Sys2Proof.Machine.execLdMemHlD s
  | .ldMemHlE => Sys2Proof.Machine.execLdMemHlE s
  | .ldMemHlH => Sys2Proof.Machine.execLdMemHlH s
  | .ldMemHlL => Sys2Proof.Machine.execLdMemHlL s
  | .halt => Sys2Proof.Machine.execHalt s
  | .ldMemHlA => Sys2Proof.Machine.execLdMemHlA s
  | .ldAB => Sys2Proof.Machine.execLdAB s
  | .ldAC => Sys2Proof.Machine.execLdAC s
  | .ldAD => Sys2Proof.Machine.execLdAD s
  | .ldAE => Sys2Proof.Machine.execLdAE s
  | .ldAH => Sys2Proof.Machine.execLdAH s
  | .ldAL => Sys2Proof.Machine.execLdAL s
  | .ldAMemHl => Sys2Proof.Machine.execLdAMemHl s
  | .ldAA => Sys2Proof.Machine.execLdAA s
  | .addAB => Sys2Proof.Machine.execAddAB s
  | .addAC => Sys2Proof.Machine.execAddAC s
  | .addAD => Sys2Proof.Machine.execAddAD s
  | .addAE => Sys2Proof.Machine.execAddAE s
  | .addAH => Sys2Proof.Machine.execAddAH s
  | .addAL => Sys2Proof.Machine.execAddAL s
  | .addAMemHl => Sys2Proof.Machine.execAddAMemHl s
  | .addAA => Sys2Proof.Machine.execAddAA s
  | .adcAB => Sys2Proof.Machine.execAdcAB s
  | .adcAC => Sys2Proof.Machine.execAdcAC s
  | .adcAD => Sys2Proof.Machine.execAdcAD s
  | .adcAE => Sys2Proof.Machine.execAdcAE s
  | .adcAH => Sys2Proof.Machine.execAdcAH s
  | .adcAL => Sys2Proof.Machine.execAdcAL s
  | .adcAMemHl => Sys2Proof.Machine.execAdcAMemHl s
  | .adcAA => Sys2Proof.Machine.execAdcAA s
  | .subB => Sys2Proof.Machine.execSubB s
  | .subC => Sys2Proof.Machine.execSubC s
  | .subD => Sys2Proof.Machine.execSubD s
  | .subE => Sys2Proof.Machine.execSubE s
  | .subH => Sys2Proof.Machine.execSubH s
  | .subL => Sys2Proof.Machine.execSubL s
  | .subMemHl => Sys2Proof.Machine.execSubMemHl s
  | .subA => Sys2Proof.Machine.execSubA s
  | .sbcAB => Sys2Proof.Machine.execSbcAB s
  | .sbcAC => Sys2Proof.Machine.execSbcAC s
  | .sbcAD => Sys2Proof.Machine.execSbcAD s
  | .sbcAE => Sys2Proof.Machine.execSbcAE s
  | .sbcAH => Sys2Proof.Machine.execSbcAH s
  | .sbcAL => Sys2Proof.Machine.execSbcAL s
  | .sbcAMemHl => Sys2Proof.Machine.execSbcAMemHl s
  | .sbcAA => Sys2Proof.Machine.execSbcAA s
  | .andB => Sys2Proof.Machine.execAndB s
  | .andC => Sys2Proof.Machine.execAndC s
  | .andD => Sys2Proof.Machine.execAndD s
  | .andE => Sys2Proof.Machine.execAndE s
  | .andH => Sys2Proof.Machine.execAndH s
  | .andL => Sys2Proof.Machine.execAndL s
  | .andMemHl => Sys2Proof.Machine.execAndMemHl s
  | .andA => Sys2Proof.Machine.execAndA s
  | .xorB => Sys2Proof.Machine.execXorB s
  | .xorC => Sys2Proof.Machine.execXorC s
  | .xorD => Sys2Proof.Machine.execXorD s
  | .xorE => Sys2Proof.Machine.execXorE s
  | .xorH => Sys2Proof.Machine.execXorH s
  | .xorL => Sys2Proof.Machine.execXorL s
  | .xorMemHl => Sys2Proof.Machine.execXorMemHl s
  | .xorA => Sys2Proof.Machine.execXorA s
  | .orB => Sys2Proof.Machine.execOrB s
  | .orC => Sys2Proof.Machine.execOrC s
  | .orD => Sys2Proof.Machine.execOrD s
  | .orE => Sys2Proof.Machine.execOrE s
  | .orH => Sys2Proof.Machine.execOrH s
  | .orL => Sys2Proof.Machine.execOrL s
  | .orMemHl => Sys2Proof.Machine.execOrMemHl s
  | .orA => Sys2Proof.Machine.execOrA s
  | .cpB => Sys2Proof.Machine.execCpB s
  | .cpC => Sys2Proof.Machine.execCpC s
  | .cpD => Sys2Proof.Machine.execCpD s
  | .cpE => Sys2Proof.Machine.execCpE s
  | .cpH => Sys2Proof.Machine.execCpH s
  | .cpL => Sys2Proof.Machine.execCpL s
  | .cpMemHl => Sys2Proof.Machine.execCpMemHl s
  | .cpA => Sys2Proof.Machine.execCpA s
  | .retNz => Sys2Proof.Machine.execRetNz s
  | .popBc => Sys2Proof.Machine.execPopBc s
  | .pushBc => Sys2Proof.Machine.execPushBc s
  | .rst00 => Sys2Proof.Machine.execRst00 s
  | .retZ => Sys2Proof.Machine.execRetZ s
  | .ret => Sys2Proof.Machine.execRet s
  | .prefixCb => Sys2Proof.Machine.execPrefixCb s
  | .rst08 => Sys2Proof.Machine.execRst08 s
  | .retNc => Sys2Proof.Machine.execRetNc s
  | .popDe => Sys2Proof.Machine.execPopDe s
  | .illegalD3 => Sys2Proof.Machine.execIllegalD3 s
  | .pushDe => Sys2Proof.Machine.execPushDe s
  | .rst10 => Sys2Proof.Machine.execRst10 s
  | .retC => Sys2Proof.Machine.execRetC s
  | .reti => Sys2Proof.Machine.execReti s
  | .illegalDB => Sys2Proof.Machine.execIllegalDB s
  | .illegalDD => Sys2Proof.Machine.execIllegalDD s
  | .rst18 => Sys2Proof.Machine.execRst18 s
  | .popHl => Sys2Proof.Machine.execPopHl s
  | .ldMemCA => Sys2Proof.Machine.execLdMemCA s
  | .illegalE3 => Sys2Proof.Machine.execIllegalE3 s
  | .illegalE4 => Sys2Proof.Machine.execIllegalE4 s
  | .pushHl => Sys2Proof.Machine.execPushHl s
  | .rst20 => Sys2Proof.Machine.execRst20 s
  | .jpHl => Sys2Proof.Machine.execJpHl s
  | .illegalEB => Sys2Proof.Machine.execIllegalEB s
  | .illegalEC => Sys2Proof.Machine.execIllegalEC s
  | .illegalED => Sys2Proof.Machine.execIllegalED s
  | .rst28 => Sys2Proof.Machine.execRst28 s
  | .popAf => Sys2Proof.Machine.execPopAf s
  | .ldAMemC => Sys2Proof.Machine.execLdAMemC s
  | .di => Sys2Proof.Machine.execDi s
  | .illegalF4 => Sys2Proof.Machine.execIllegalF4 s
  | .pushAf => Sys2Proof.Machine.execPushAf s
  | .rst30 => Sys2Proof.Machine.execRst30 s
  | .ldSpHl => Sys2Proof.Machine.execLdSpHl s
  | .ei => Sys2Proof.Machine.execEi s
  | .illegalFC => Sys2Proof.Machine.execIllegalFC s
  | .illegalFD => Sys2Proof.Machine.execIllegalFD s
  | .rst38 => Sys2Proof.Machine.execRst38 s
  | .cbRlcB => Sys2Proof.Machine.execCbRlcB s
  | .cbRlcC => Sys2Proof.Machine.execCbRlcC s
  | .cbRlcD => Sys2Proof.Machine.execCbRlcD s
  | .cbRlcE => Sys2Proof.Machine.execCbRlcE s
  | .cbRlcH => Sys2Proof.Machine.execCbRlcH s
  | .cbRlcL => Sys2Proof.Machine.execCbRlcL s
  | .cbRlcMemHl => Sys2Proof.Machine.execCbRlcMemHl s
  | .cbRlcA => Sys2Proof.Machine.execCbRlcA s
  | .cbRrcB => Sys2Proof.Machine.execCbRrcB s
  | .cbRrcC => Sys2Proof.Machine.execCbRrcC s
  | .cbRrcD => Sys2Proof.Machine.execCbRrcD s
  | .cbRrcE => Sys2Proof.Machine.execCbRrcE s
  | .cbRrcH => Sys2Proof.Machine.execCbRrcH s
  | .cbRrcL => Sys2Proof.Machine.execCbRrcL s
  | .cbRrcMemHl => Sys2Proof.Machine.execCbRrcMemHl s
  | .cbRrcA => Sys2Proof.Machine.execCbRrcA s
  | .cbRlB => Sys2Proof.Machine.execCbRlB s
  | .cbRlC => Sys2Proof.Machine.execCbRlC s
  | .cbRlD => Sys2Proof.Machine.execCbRlD s
  | .cbRlE => Sys2Proof.Machine.execCbRlE s
  | .cbRlH => Sys2Proof.Machine.execCbRlH s
  | .cbRlL => Sys2Proof.Machine.execCbRlL s
  | .cbRlMemHl => Sys2Proof.Machine.execCbRlMemHl s
  | .cbRlA => Sys2Proof.Machine.execCbRlA s
  | .cbRrB => Sys2Proof.Machine.execCbRrB s
  | .cbRrC => Sys2Proof.Machine.execCbRrC s
  | .cbRrD => Sys2Proof.Machine.execCbRrD s
  | .cbRrE => Sys2Proof.Machine.execCbRrE s
  | .cbRrH => Sys2Proof.Machine.execCbRrH s
  | .cbRrL => Sys2Proof.Machine.execCbRrL s
  | .cbRrMemHl => Sys2Proof.Machine.execCbRrMemHl s
  | .cbRrA => Sys2Proof.Machine.execCbRrA s
  | .cbSlaB => Sys2Proof.Machine.execCbSlaB s
  | .cbSlaC => Sys2Proof.Machine.execCbSlaC s
  | .cbSlaD => Sys2Proof.Machine.execCbSlaD s
  | .cbSlaE => Sys2Proof.Machine.execCbSlaE s
  | .cbSlaH => Sys2Proof.Machine.execCbSlaH s
  | .cbSlaL => Sys2Proof.Machine.execCbSlaL s
  | .cbSlaMemHl => Sys2Proof.Machine.execCbSlaMemHl s
  | .cbSlaA => Sys2Proof.Machine.execCbSlaA s
  | .cbSraB => Sys2Proof.Machine.execCbSraB s
  | .cbSraC => Sys2Proof.Machine.execCbSraC s
  | .cbSraD => Sys2Proof.Machine.execCbSraD s
  | .cbSraE => Sys2Proof.Machine.execCbSraE s
  | .cbSraH => Sys2Proof.Machine.execCbSraH s
  | .cbSraL => Sys2Proof.Machine.execCbSraL s
  | .cbSraMemHl => Sys2Proof.Machine.execCbSraMemHl s
  | .cbSraA => Sys2Proof.Machine.execCbSraA s
  | .cbSwapB => Sys2Proof.Machine.execCbSwapB s
  | .cbSwapC => Sys2Proof.Machine.execCbSwapC s
  | .cbSwapD => Sys2Proof.Machine.execCbSwapD s
  | .cbSwapE => Sys2Proof.Machine.execCbSwapE s
  | .cbSwapH => Sys2Proof.Machine.execCbSwapH s
  | .cbSwapL => Sys2Proof.Machine.execCbSwapL s
  | .cbSwapMemHl => Sys2Proof.Machine.execCbSwapMemHl s
  | .cbSwapA => Sys2Proof.Machine.execCbSwapA s
  | .cbSrlB => Sys2Proof.Machine.execCbSrlB s
  | .cbSrlC => Sys2Proof.Machine.execCbSrlC s
  | .cbSrlD => Sys2Proof.Machine.execCbSrlD s
  | .cbSrlE => Sys2Proof.Machine.execCbSrlE s
  | .cbSrlH => Sys2Proof.Machine.execCbSrlH s
  | .cbSrlL => Sys2Proof.Machine.execCbSrlL s
  | .cbSrlMemHl => Sys2Proof.Machine.execCbSrlMemHl s
  | .cbSrlA => Sys2Proof.Machine.execCbSrlA s
  | .cbBit0B => Sys2Proof.Machine.execCbBit0B s
  | .cbBit0C => Sys2Proof.Machine.execCbBit0C s
  | .cbBit0D => Sys2Proof.Machine.execCbBit0D s
  | .cbBit0E => Sys2Proof.Machine.execCbBit0E s
  | .cbBit0H => Sys2Proof.Machine.execCbBit0H s
  | .cbBit0L => Sys2Proof.Machine.execCbBit0L s
  | .cbBit0MemHl => Sys2Proof.Machine.execCbBit0MemHl s
  | .cbBit0A => Sys2Proof.Machine.execCbBit0A s
  | .cbBit1B => Sys2Proof.Machine.execCbBit1B s
  | .cbBit1C => Sys2Proof.Machine.execCbBit1C s
  | .cbBit1D => Sys2Proof.Machine.execCbBit1D s
  | .cbBit1E => Sys2Proof.Machine.execCbBit1E s
  | .cbBit1H => Sys2Proof.Machine.execCbBit1H s
  | .cbBit1L => Sys2Proof.Machine.execCbBit1L s
  | .cbBit1MemHl => Sys2Proof.Machine.execCbBit1MemHl s
  | .cbBit1A => Sys2Proof.Machine.execCbBit1A s
  | .cbBit2B => Sys2Proof.Machine.execCbBit2B s
  | .cbBit2C => Sys2Proof.Machine.execCbBit2C s
  | .cbBit2D => Sys2Proof.Machine.execCbBit2D s
  | .cbBit2E => Sys2Proof.Machine.execCbBit2E s
  | .cbBit2H => Sys2Proof.Machine.execCbBit2H s
  | .cbBit2L => Sys2Proof.Machine.execCbBit2L s
  | .cbBit2MemHl => Sys2Proof.Machine.execCbBit2MemHl s
  | .cbBit2A => Sys2Proof.Machine.execCbBit2A s
  | .cbBit3B => Sys2Proof.Machine.execCbBit3B s
  | .cbBit3C => Sys2Proof.Machine.execCbBit3C s
  | .cbBit3D => Sys2Proof.Machine.execCbBit3D s
  | .cbBit3E => Sys2Proof.Machine.execCbBit3E s
  | .cbBit3H => Sys2Proof.Machine.execCbBit3H s
  | .cbBit3L => Sys2Proof.Machine.execCbBit3L s
  | .cbBit3MemHl => Sys2Proof.Machine.execCbBit3MemHl s
  | .cbBit3A => Sys2Proof.Machine.execCbBit3A s
  | .cbBit4B => Sys2Proof.Machine.execCbBit4B s
  | .cbBit4C => Sys2Proof.Machine.execCbBit4C s
  | .cbBit4D => Sys2Proof.Machine.execCbBit4D s
  | .cbBit4E => Sys2Proof.Machine.execCbBit4E s
  | .cbBit4H => Sys2Proof.Machine.execCbBit4H s
  | .cbBit4L => Sys2Proof.Machine.execCbBit4L s
  | .cbBit4MemHl => Sys2Proof.Machine.execCbBit4MemHl s
  | .cbBit4A => Sys2Proof.Machine.execCbBit4A s
  | .cbBit5B => Sys2Proof.Machine.execCbBit5B s
  | .cbBit5C => Sys2Proof.Machine.execCbBit5C s
  | .cbBit5D => Sys2Proof.Machine.execCbBit5D s
  | .cbBit5E => Sys2Proof.Machine.execCbBit5E s
  | .cbBit5H => Sys2Proof.Machine.execCbBit5H s
  | .cbBit5L => Sys2Proof.Machine.execCbBit5L s
  | .cbBit5MemHl => Sys2Proof.Machine.execCbBit5MemHl s
  | .cbBit5A => Sys2Proof.Machine.execCbBit5A s
  | .cbBit6B => Sys2Proof.Machine.execCbBit6B s
  | .cbBit6C => Sys2Proof.Machine.execCbBit6C s
  | .cbBit6D => Sys2Proof.Machine.execCbBit6D s
  | .cbBit6E => Sys2Proof.Machine.execCbBit6E s
  | .cbBit6H => Sys2Proof.Machine.execCbBit6H s
  | .cbBit6L => Sys2Proof.Machine.execCbBit6L s
  | .cbBit6MemHl => Sys2Proof.Machine.execCbBit6MemHl s
  | .cbBit6A => Sys2Proof.Machine.execCbBit6A s
  | .cbBit7B => Sys2Proof.Machine.execCbBit7B s
  | .cbBit7C => Sys2Proof.Machine.execCbBit7C s
  | .cbBit7D => Sys2Proof.Machine.execCbBit7D s
  | .cbBit7E => Sys2Proof.Machine.execCbBit7E s
  | .cbBit7H => Sys2Proof.Machine.execCbBit7H s
  | .cbBit7L => Sys2Proof.Machine.execCbBit7L s
  | .cbBit7MemHl => Sys2Proof.Machine.execCbBit7MemHl s
  | .cbBit7A => Sys2Proof.Machine.execCbBit7A s
  | .cbRes0B => Sys2Proof.Machine.execCbRes0B s
  | .cbRes0C => Sys2Proof.Machine.execCbRes0C s
  | .cbRes0D => Sys2Proof.Machine.execCbRes0D s
  | .cbRes0E => Sys2Proof.Machine.execCbRes0E s
  | .cbRes0H => Sys2Proof.Machine.execCbRes0H s
  | .cbRes0L => Sys2Proof.Machine.execCbRes0L s
  | .cbRes0MemHl => Sys2Proof.Machine.execCbRes0MemHl s
  | .cbRes0A => Sys2Proof.Machine.execCbRes0A s
  | .cbRes1B => Sys2Proof.Machine.execCbRes1B s
  | .cbRes1C => Sys2Proof.Machine.execCbRes1C s
  | .cbRes1D => Sys2Proof.Machine.execCbRes1D s
  | .cbRes1E => Sys2Proof.Machine.execCbRes1E s
  | .cbRes1H => Sys2Proof.Machine.execCbRes1H s
  | .cbRes1L => Sys2Proof.Machine.execCbRes1L s
  | .cbRes1MemHl => Sys2Proof.Machine.execCbRes1MemHl s
  | .cbRes1A => Sys2Proof.Machine.execCbRes1A s
  | .cbRes2B => Sys2Proof.Machine.execCbRes2B s
  | .cbRes2C => Sys2Proof.Machine.execCbRes2C s
  | .cbRes2D => Sys2Proof.Machine.execCbRes2D s
  | .cbRes2E => Sys2Proof.Machine.execCbRes2E s
  | .cbRes2H => Sys2Proof.Machine.execCbRes2H s
  | .cbRes2L => Sys2Proof.Machine.execCbRes2L s
  | .cbRes2MemHl => Sys2Proof.Machine.execCbRes2MemHl s
  | .cbRes2A => Sys2Proof.Machine.execCbRes2A s
  | .cbRes3B => Sys2Proof.Machine.execCbRes3B s
  | .cbRes3C => Sys2Proof.Machine.execCbRes3C s
  | .cbRes3D => Sys2Proof.Machine.execCbRes3D s
  | .cbRes3E => Sys2Proof.Machine.execCbRes3E s
  | .cbRes3H => Sys2Proof.Machine.execCbRes3H s
  | .cbRes3L => Sys2Proof.Machine.execCbRes3L s
  | .cbRes3MemHl => Sys2Proof.Machine.execCbRes3MemHl s
  | .cbRes3A => Sys2Proof.Machine.execCbRes3A s
  | .cbRes4B => Sys2Proof.Machine.execCbRes4B s
  | .cbRes4C => Sys2Proof.Machine.execCbRes4C s
  | .cbRes4D => Sys2Proof.Machine.execCbRes4D s
  | .cbRes4E => Sys2Proof.Machine.execCbRes4E s
  | .cbRes4H => Sys2Proof.Machine.execCbRes4H s
  | .cbRes4L => Sys2Proof.Machine.execCbRes4L s
  | .cbRes4MemHl => Sys2Proof.Machine.execCbRes4MemHl s
  | .cbRes4A => Sys2Proof.Machine.execCbRes4A s
  | .cbRes5B => Sys2Proof.Machine.execCbRes5B s
  | .cbRes5C => Sys2Proof.Machine.execCbRes5C s
  | .cbRes5D => Sys2Proof.Machine.execCbRes5D s
  | .cbRes5E => Sys2Proof.Machine.execCbRes5E s
  | .cbRes5H => Sys2Proof.Machine.execCbRes5H s
  | .cbRes5L => Sys2Proof.Machine.execCbRes5L s
  | .cbRes5MemHl => Sys2Proof.Machine.execCbRes5MemHl s
  | .cbRes5A => Sys2Proof.Machine.execCbRes5A s
  | .cbRes6B => Sys2Proof.Machine.execCbRes6B s
  | .cbRes6C => Sys2Proof.Machine.execCbRes6C s
  | .cbRes6D => Sys2Proof.Machine.execCbRes6D s
  | .cbRes6E => Sys2Proof.Machine.execCbRes6E s
  | .cbRes6H => Sys2Proof.Machine.execCbRes6H s
  | .cbRes6L => Sys2Proof.Machine.execCbRes6L s
  | .cbRes6MemHl => Sys2Proof.Machine.execCbRes6MemHl s
  | .cbRes6A => Sys2Proof.Machine.execCbRes6A s
  | .cbRes7B => Sys2Proof.Machine.execCbRes7B s
  | .cbRes7C => Sys2Proof.Machine.execCbRes7C s
  | .cbRes7D => Sys2Proof.Machine.execCbRes7D s
  | .cbRes7E => Sys2Proof.Machine.execCbRes7E s
  | .cbRes7H => Sys2Proof.Machine.execCbRes7H s
  | .cbRes7L => Sys2Proof.Machine.execCbRes7L s
  | .cbRes7MemHl => Sys2Proof.Machine.execCbRes7MemHl s
  | .cbRes7A => Sys2Proof.Machine.execCbRes7A s
  | .cbSet0B => Sys2Proof.Machine.execCbSet0B s
  | .cbSet0C => Sys2Proof.Machine.execCbSet0C s
  | .cbSet0D => Sys2Proof.Machine.execCbSet0D s
  | .cbSet0E => Sys2Proof.Machine.execCbSet0E s
  | .cbSet0H => Sys2Proof.Machine.execCbSet0H s
  | .cbSet0L => Sys2Proof.Machine.execCbSet0L s
  | .cbSet0MemHl => Sys2Proof.Machine.execCbSet0MemHl s
  | .cbSet0A => Sys2Proof.Machine.execCbSet0A s
  | .cbSet1B => Sys2Proof.Machine.execCbSet1B s
  | .cbSet1C => Sys2Proof.Machine.execCbSet1C s
  | .cbSet1D => Sys2Proof.Machine.execCbSet1D s
  | .cbSet1E => Sys2Proof.Machine.execCbSet1E s
  | .cbSet1H => Sys2Proof.Machine.execCbSet1H s
  | .cbSet1L => Sys2Proof.Machine.execCbSet1L s
  | .cbSet1MemHl => Sys2Proof.Machine.execCbSet1MemHl s
  | .cbSet1A => Sys2Proof.Machine.execCbSet1A s
  | .cbSet2B => Sys2Proof.Machine.execCbSet2B s
  | .cbSet2C => Sys2Proof.Machine.execCbSet2C s
  | .cbSet2D => Sys2Proof.Machine.execCbSet2D s
  | .cbSet2E => Sys2Proof.Machine.execCbSet2E s
  | .cbSet2H => Sys2Proof.Machine.execCbSet2H s
  | .cbSet2L => Sys2Proof.Machine.execCbSet2L s
  | .cbSet2MemHl => Sys2Proof.Machine.execCbSet2MemHl s
  | .cbSet2A => Sys2Proof.Machine.execCbSet2A s
  | .cbSet3B => Sys2Proof.Machine.execCbSet3B s
  | .cbSet3C => Sys2Proof.Machine.execCbSet3C s
  | .cbSet3D => Sys2Proof.Machine.execCbSet3D s
  | .cbSet3E => Sys2Proof.Machine.execCbSet3E s
  | .cbSet3H => Sys2Proof.Machine.execCbSet3H s
  | .cbSet3L => Sys2Proof.Machine.execCbSet3L s
  | .cbSet3MemHl => Sys2Proof.Machine.execCbSet3MemHl s
  | .cbSet3A => Sys2Proof.Machine.execCbSet3A s
  | .cbSet4B => Sys2Proof.Machine.execCbSet4B s
  | .cbSet4C => Sys2Proof.Machine.execCbSet4C s
  | .cbSet4D => Sys2Proof.Machine.execCbSet4D s
  | .cbSet4E => Sys2Proof.Machine.execCbSet4E s
  | .cbSet4H => Sys2Proof.Machine.execCbSet4H s
  | .cbSet4L => Sys2Proof.Machine.execCbSet4L s
  | .cbSet4MemHl => Sys2Proof.Machine.execCbSet4MemHl s
  | .cbSet4A => Sys2Proof.Machine.execCbSet4A s
  | .cbSet5B => Sys2Proof.Machine.execCbSet5B s
  | .cbSet5C => Sys2Proof.Machine.execCbSet5C s
  | .cbSet5D => Sys2Proof.Machine.execCbSet5D s
  | .cbSet5E => Sys2Proof.Machine.execCbSet5E s
  | .cbSet5H => Sys2Proof.Machine.execCbSet5H s
  | .cbSet5L => Sys2Proof.Machine.execCbSet5L s
  | .cbSet5MemHl => Sys2Proof.Machine.execCbSet5MemHl s
  | .cbSet5A => Sys2Proof.Machine.execCbSet5A s
  | .cbSet6B => Sys2Proof.Machine.execCbSet6B s
  | .cbSet6C => Sys2Proof.Machine.execCbSet6C s
  | .cbSet6D => Sys2Proof.Machine.execCbSet6D s
  | .cbSet6E => Sys2Proof.Machine.execCbSet6E s
  | .cbSet6H => Sys2Proof.Machine.execCbSet6H s
  | .cbSet6L => Sys2Proof.Machine.execCbSet6L s
  | .cbSet6MemHl => Sys2Proof.Machine.execCbSet6MemHl s
  | .cbSet6A => Sys2Proof.Machine.execCbSet6A s
  | .cbSet7B => Sys2Proof.Machine.execCbSet7B s
  | .cbSet7C => Sys2Proof.Machine.execCbSet7C s
  | .cbSet7D => Sys2Proof.Machine.execCbSet7D s
  | .cbSet7E => Sys2Proof.Machine.execCbSet7E s
  | .cbSet7H => Sys2Proof.Machine.execCbSet7H s
  | .cbSet7L => Sys2Proof.Machine.execCbSet7L s
  | .cbSet7MemHl => Sys2Proof.Machine.execCbSet7MemHl s
  | .cbSet7A => Sys2Proof.Machine.execCbSet7A s

end Sys2Proof.Machine
end

