-- ==== Sys2Proof/Machine/Step.lean ====
section
/-! DEFINITION. One step of the interpreter, `cycle()` (60_exceptions.md rule R274), and the state in which the next step
fetches a given instruction. -/

namespace Sys2Proof.Machine

/-- One step (60_exceptions.md rule R274): idle while halted, take one interrupt, execute exactly one instruction, or
fault. -/
def step (s : State) : Host.Outcome State Fault Refusal :=
  match s.beginStep with
  | .inl t => .next t
  | .inr s =>
    let fetched := s.fetchInstr
    match exec fetched.1 fetched.2 with
    | .next t => .next (t.settleEnable s.cpu.eiDelay)
    | .fault r => .fault r
    | .refused r => .refused r

/-- `s` with the instruction of table bits `w` stored where the next step fetches (log entry 8): its bytes as
`tableBytes` lays them out, zero bytes up to the longest instruction. -/
def State.withFetchWord (s : State) (nbits w : Nat) : State :=
  let bs := tableBytes nbits w
  (s.plantBytes s.cpu.pc (bs ++ List.replicate (3 - bs.length) 0)).readyToFetch

end Sys2Proof.Machine
end

