-- ==== Sys2Proof/Machine/Session.lean ====
section
/-! DEFINITION. What the host and the collaborators can do to the machine outside a step (70_reset_and_hazards.md rules
R290 to R292, R300; 20_memory.md rules R62 to R66): construction, `reset()`, the no-boot initializer, handler
registration, the access gates, interrupt requests. `step` uses none of them. -/

namespace Sys2Proof.Machine

/-- Why a session is not constructed (60_exceptions.md rule R270). -/
inductive ConfigError where
  /-- `CART_TYPE` names no controller the spec recognises (20_memory.md rule R70). -/
  | unrecognizedController (cartType : Byte)
  deriving DecidableEq, Repr

/-- The controller a `CART_TYPE` selects (20_memory.md rule R70). -/
def controllerOf (cartType : Byte) : Except ConfigError MbcKind :=
  if cartType = 0x00 then .ok .none
  else if cartType = 0x01 ∨ cartType = 0x02 ∨ cartType = 0x03 then .ok .mbc1
  else .error (.unrecognizedController cartType)

/-- `CART_TYPE` selects this controller kind. -/
def selects (cartType : Byte) (kind : MbcKind) : Bool :=
  match controllerOf cartType with
  | .ok k => k == kind
  | .error _ => false

/-- The banking state after `reset()` (10_state.md rule R31): the external RAM is kept. -/
def resetController (kind : MbcKind) (eram : Memory) : BankController :=
  { kind := kind, romBank := 1, ramBank := 0, ramEnable := false, bankMode := 0, eram := eram }

/-- The address space after `reset()` (10_state.md rule R31): the handler table, the serial log and the parameters are
kept; the controller is selected again from `CART_TYPE`. -/
def Bus.resetBus (b : Bus) : Bus :=
  let kind :=
    match controllerOf b.params.cartType with
    | .ok k => k
    | .error _ => b.mbc.kind
  { b with
    wram := [], vram := [], oam := [], io := [], hram := []
    booting := true, vramGate := true, oamGate := true, guard := .idle
    mbc := resetController kind b.mbc.eram }

/-- `reset()` (70_reset_and_hazards.md rule R290). DESIGN CHOICE (log entry 26): a step that faults has no next state
(60_exceptions.md rule R270), so `reset()` after a fault acts on the state before the faulting step; what a handler's
nested writes in that step did to the external RAM or the serial log is not kept. -/
def State.resetSession (s : State) : State := { s with cpu := Cpu.reset, bus := s.bus.resetBus }

/-- The external RAM at construction (20_memory.md rule R84): the persisted image, index `k` of the image being byte `k`,
or all zero where there is none. -/
def eramFromImage {size : Nat} : Option (Vector Byte size) → Memory
  | none => []
  | some image => cellsFrom 0 image.toList

/-- Construction of a session (70_reset_and_hazards.md rule R291, steps 1 to 4), before an entry point is called.
`eramImage` is the parameter ERAM_IMAGE (00_scope.md rule R4): absent, or a byte array of length ERAM_SIZE; its type
refuses any other length (93_implementation_defined.md U11). -/
def State.construct (p : Params) (eramImage : Option (Vector Byte p.eramSize)) : Except ConfigError State :=
  match controllerOf p.cartType with
  | .error e => .error e
  | .ok kind =>
    .ok { State.reset with
          bus := { State.reset.bus with params := p, mbc := resetController kind (eramFromImage eramImage) } }

/-- The registers of the no-boot initializer (10_state.md rule R32). -/
def Cpu.noBoot : Cpu :=
  { Cpu.reset with
    a := 0x01, b := 0x00, c := 0x13, d := 0x00, e := 0xD8, h := 0x01, l := 0x4D
    fZ := true, fN := false, fH := true, fC := true, sp := 0xFFFE, pc := 0x0100 }

/-- The no-boot initializer (70_reset_and_hazards.md rule R292). -/
def State.noBoot (s : State) : State :=
  let s := s.resetSession
  { s with cpu := Cpu.noBoot, bus := { s.bus with booting := false } }

/-- The claims of a handler table without those of handler `h`, with those `claims` gives it (20_memory.md rule R63),
indices rising. -/
def claimTable (old : List (Nat × Nat)) (h : Nat) (claims : Word → Bool) : List (Nat × Nat) :=
  (List.range 0x80).filterMap fun i =>
    if claims (0xFF00 + BitVec.ofNat 16 i) then some (i, h)
    else
      match handlerHolding old i with
      | some g => if g = h then none else some (i, g)
      | none => none

/-- `registerHandler(h)` with the predicate `claims` the handler exposes (20_memory.md rule R63). -/
def State.registerHandler (s : State) (h : Nat) (claims : Word → Bool) : State :=
  { s with bus := { s.bus with handlerAt := claimTable s.bus.handlerAt h claims } }

/-- `unregisterHandler(h)` (20_memory.md rule R64). -/
def State.unregisterHandler (s : State) (h : Nat) : State :=
  { s with bus := { s.bus with handlerAt := claimTable s.bus.handlerAt h fun _ => false } }

/-- `set_vram_gate` (20_memory.md rule R66). -/
def State.setVramGate (s : State) (isOpen : Bool) : State := { s with bus := { s.bus with vramGate := isOpen } }

/-- `set_oam_gate` (20_memory.md rule R66). -/
def State.setOamGate (s : State) (isOpen : Bool) : State := { s with bus := { s.bus with oamGate := isOpen } }

/-- The rendering collaborator's raw read of video RAM, which ignores the gate (20_memory.md rule R66). -/
def State.peekVram (s : State) (i : Nat) : Byte := readCell s.bus.vram i

/-- The rendering collaborator's raw read of the sprite table, which ignores the gate (20_memory.md rule R66). -/
def State.peekOam (s : State) (i : Nat) : Byte := readCell s.bus.oam i

/-- A device's interrupt request between steps: bit `n` of the stored `IF` set (70_reset_and_hazards.md rule R300). -/
def State.requestInterrupt (s : State) (n : Nat) : State :=
  let f := readCell s.bus.io ioInterruptFlag ||| ((1 : Byte) <<< n)
  { s with bus := { s.bus with io := writeCell s.bus.io ioInterruptFlag f } }

/-- A device's update of a bus register between steps, through the bus (70_reset_and_hazards.md rule R300). -/
def State.deviceWrite (s : State) (addr : Word) (v : Byte) : State := s.write addr v

/-- The image the host flushes at the end of a session (20_memory.md rule R84): ERAM_SIZE bytes. -/
def State.eramImage (s : State) : Vector Byte s.bus.params.eramSize := bufferBytes s.bus.mbc.eram s.bus.params.eramSize

end Sys2Proof.Machine
end

