-- ==== Sys2Proof/Safety.lean ====
section
/-! DEFINITION. The terms of the claims: the invariant of the reachable states, the parts of the state no step may change,
what a store can change, the addresses an instruction accesses, the registers and flags it may write (from the tables and
rules of spec/, not from the meanings), and rotates, shifts and bits as numbers. -/

namespace Sys2Proof.Machine

/-- The banking state a controller kind allows: with no controller the reset values for ever (20_memory.md rule R73);
with the banked scheme the low five bits of the ROM bank index are never zero (20_memory.md rule R75). -/
abbrev BankController.Allowed (m : BankController) : Prop :=
  (m.kind = .none → m.romBank = 1 ∧ m.ramBank = 0 ∧ m.ramEnable = false ∧ m.bankMode = 0) ∧
  (m.kind = .mbc1 → m.romBank.extractLsb' 0 5 ≠ 0)

/-- Every buffer is in canonical form and has its size (10_state.md rules R20, R27). -/
abbrev Bus.Buffers (b : Bus) : Prop :=
  Memory.buffer b.wram 0x2000 ∧ Memory.buffer b.vram 0x2000 ∧ Memory.buffer b.oam 0xA0 ∧ Memory.buffer b.io 0x81 ∧
  Memory.buffer b.hram 0x7F ∧ Memory.buffer b.mbc.eram b.params.eramSize

/-- The address space's part of the invariant: the buffers, the banking state, the controller kind that `CART_TYPE`
selects (20_memory.md rule R70). -/
abbrev Bus.Sound (b : Bus) : Prop :=
  b.Buffers ∧ b.mbc.Allowed ∧ selects b.params.cartType b.mbc.kind = true

/-- The machine's invariant at a step boundary: a sound address space, the guard idle (10_state.md rule R23), and a
pending enable only while `IME` is false (10_state.md rule R18). -/
abbrev State.Inv (s : State) : Prop :=
  s.bus.Sound ∧ s.bus.guard = .idle ∧ (s.cpu.eiDelay = true → s.cpu.ime = false)

/-- The parts of the address space only the host changes: parameters, access gates, handler table (10_state.md rules
R22, R24, R33). -/
structure HostSide where
  params : Params
  vramGate : Bool
  oamGate : Bool
  handlerAt : List (Nat × Nat)
  deriving DecidableEq, Repr

/-- The host's side of an address space. -/
def Bus.hostSide (b : Bus) : HostSide :=
  { params := b.params, vramGate := b.vramGate, oamGate := b.oamGate, handlerAt := b.handlerAt }

/-- The `n` bytes at the program counter, as reads with no handler give them. -/
def State.codeBytes (s : State) (n : Nat) : List Byte :=
  (List.range n).map fun k => s.bus.rawRead (s.cpu.pc + BitVec.ofNat 16 k)

/-- No handler claims any of the `n` addresses at the program counter (20_memory.md rule R56). -/
def State.codeUnclaimed (s : State) (n : Nat) : Prop :=
  ∀ k, k < n → s.bus.forwardsTo (s.cpu.pc + BitVec.ofNat 16 k) = none

/-- `IE & IF & 0x1F` of the stored bytes: what the interrupt test reads while no handler claims `IF`
(60_exceptions.md rule R275). -/
def State.pending (s : State) : Byte :=
  s.bus.rawRead addrInterruptEnable &&& s.bus.rawRead addrInterruptFlag &&& 0x1F

/-! ### What a store can change -/

/-- A write to `a` can change what `x` reads as (20_memory.md rule R82): `x` has the same storage behind it, or the
write is a bank-control write and `x` lies in a window the banking state serves, or it is a write to the boot-mode
register and `x` lies under the overlay. -/
def Bus.aliases (b : Bus) (a x : Word) : Bool :=
  match route a with
  | .rom _ => decide (0x4000 ≤ x.toNat ∧ x.toNat < 0x8000) || decide (0xA000 ≤ x.toNat ∧ x.toNat < 0xC000)
  | .eram i =>
    match route x with
    | .eram j => eramIndex b.params b.mbc i == eramIndex b.params b.mbc j
    | _ => false
  | .wram i =>
    match route x with
    | .wram j => i == j
    | .echo j => i == j
    | _ => false
  | .echo i =>
    match route x with
    | .wram j => i == j
    | .echo j => i == j
    | _ => false
  | .io i => x == a || (decide (i = ioBootMode) && decide (x.toNat ≤ 0xFF))
  | .unusable => false
  | _ => x == a

/-- The storage behind `a` returns what was written to it, as long as no handler claims `a` (41_load16_stack.md rule
R149). -/
def Bus.retains (b : Bus) (a : Word) : Bool :=
  match route a with
  | .rom _ => false
  | .vram _ => b.vramGate
  | .eram _ => b.mbc.ramEnable && b.params.eramSize != 0
  | .oam _ => b.oamGate
  | .unusable => false
  | _ => true

/-- Byte `k` of the external RAM a persisted image gives: the image's own byte, 0x00 past it or where there is none
(20_memory.md rule R84). -/
def imageByte {size : Nat} (image : Option (Vector Byte size)) (k : Nat) : Byte :=
  match image with
  | none => 0x00
  | some bytes => bytes.toList.getD k 0x00

/-! ### Terms of the instruction claims -/

/-- The operand of an 8-bit operation on `A`: its value, the bus after it is read, the instruction's cost
(42_alu8.md section 2). -/
def aluOperand (s : State) : AluSrc → Byte × Bus × Nat
  | .opnd (.reg r) => (s.cpu.reg r, s.bus, 4)
  | .opnd .memHl => ((s.bus.read s.cpu.hl).1, (s.bus.read s.cpu.hl).2, 8)
  | .imm d8 => (d8, s.bus, 8)

/-- The eleven unassigned opcodes (30_encoding.md rule R105). -/
def unassignedOpcodes : List Byte := [0xD3, 0xDB, 0xDD, 0xE3, 0xE4, 0xEB, 0xEC, 0xED, 0xF4, 0xFC, 0xFD]

end Sys2Proof.Machine

namespace Sys2Proof

open Machine

/-! ### The addresses an instruction accesses -/

/-- The address of an operand in memory. -/
def Opnd8.addresses (s : Cpu) : Opnd8 → List Word
  | .reg _ => []
  | .memHl => [s.hl]

/-- The address of an arithmetic operand in memory. -/
def AluSrc.addresses (s : Cpu) : AluSrc → List Word
  | .opnd o => o.addresses s
  | .imm _ => []

/-- The addresses an instruction stores to, in the machine whose program counter stands after the instruction. -/
def Form.stores (f : Form) (s : Cpu) : List Word :=
  match f with
  | .ldMemReg _ => [s.hl]
  | .ldMemImm _ => [s.hl]
  | .ldPtrA p => [s.ptrAddr p]
  | .ldAbsA a16 => [a16]
  | .ldhStore a8 => [highPage a8]
  | .ldHighCA => [highPage s.c]
  | .ldAbsSp a16 => [a16, a16 + 1]
  | .push _ => [s.sp - 1, s.sp - 1 - 1]
  | .inc8 o => o.addresses s
  | .dec8 o => o.addresses s
  | .shift _ o => o.addresses s
  | .res _ o => o.addresses s
  | .set _ o => o.addresses s
  | .call _ => [s.sp - 1, s.sp - 1 - 1]
  | .callCc cc _ => if s.cond cc then [s.sp - 1, s.sp - 1 - 1] else []
  | .rst _ => [s.sp - 1, s.sp - 1 - 1]
  | _ => []

/-- The addresses an instruction loads from (its own bytes apart). -/
def Form.loads (f : Form) (s : Cpu) : List Word :=
  match f with
  | .ldRegMem _ => [s.hl]
  | .ldAPtr p => [s.ptrAddr p]
  | .ldAAbs a16 => [a16]
  | .ldhLoad a8 => [highPage a8]
  | .ldAHighC => [highPage s.c]
  | .pop _ => [s.sp, s.sp + 1]
  | .alu _ src => src.addresses s
  | .inc8 o => o.addresses s
  | .dec8 o => o.addresses s
  | .shift _ o => o.addresses s
  | .bit _ o => o.addresses s
  | .res _ o => o.addresses s
  | .set _ o => o.addresses s
  | .ret => [s.sp, s.sp + 1]
  | .retCc cc => if s.cond cc then [s.sp, s.sp + 1] else []
  | .reti => [s.sp, s.sp + 1]
  | _ => []

/-! ### What an instruction may write -/

/-- The registers a pair is made of. -/
def Pair.halves : Pair → List Reg8
  | .bc => [.b, .c]
  | .de => [.d, .e]
  | .hl => [.h, .l]
  | .sp => []

/-- The registers a popped pair is made of, `F` apart. -/
def StackPair.halves : StackPair → List Reg8
  | .bc => [.b, .c]
  | .de => [.d, .e]
  | .hl => [.h, .l]
  | .af => [.a]

/-- The register of an operand in a register. -/
def Opnd8.registers : Opnd8 → List Reg8
  | .reg r => [r]
  | .memHl => []

/-- The registers a pointer operand moves. -/
def Ptr.moved : Ptr → List Reg8
  | .bc => []
  | .de => []
  | .hlInc => [.h, .l]
  | .hlDec => [.h, .l]

/-- The 8-bit registers an instruction writes (its own rule's operation). -/
def Form.registers : Form → List Reg8
  | .ldRegReg d _ => [d]
  | .ldRegImm r _ => [r]
  | .ldRegMem d => [d]
  | .ldAPtr p => .a :: p.moved
  | .ldPtrA p => p.moved
  | .ldAAbs _ => [.a]
  | .ldhLoad _ => [.a]
  | .ldAHighC => [.a]
  | .ldPairImm rr _ => rr.halves
  | .pop qq => qq.halves
  | .ldHlSp _ => [.h, .l]
  | .alu op _ => if op = .cp then [] else [.a]
  | .inc8 o => o.registers
  | .dec8 o => o.registers
  | .daa => [.a]
  | .cpl => [.a]
  | .addHl _ => [.h, .l]
  | .inc16 rr => rr.halves
  | .dec16 rr => rr.halves
  | .rotA _ => [.a]
  | .shift _ o => o.registers
  | .res _ o => o.registers
  | .set _ o => o.registers
  | _ => []

/-- The instructions that write `SP` (10_state.md rule R14). -/
def Form.writesSp : Form → Bool
  | .ldPairImm rr _ => rr == .sp
  | .ldSpHl => true
  | .push _ => true
  | .pop _ => true
  | .inc16 rr => rr == .sp
  | .dec16 rr => rr == .sp
  | .addSp _ => true
  | .call _ => true
  | .callCc _ _ => true
  | .rst _ => true
  | .ret => true
  | .retCc _ => true
  | .reti => true
  | _ => false

/-- The control transfers (45_control.md): the instructions that write `PC` themselves. -/
def Form.transfers : Form → Bool
  | .jp _ => true
  | .jpCc _ _ => true
  | .jr _ => true
  | .jrCc _ _ => true
  | .jpHl => true
  | .call _ => true
  | .callCc _ _ => true
  | .rst _ => true
  | .ret => true
  | .retCc _ => true
  | .reti => true
  | _ => false

/-- What an instruction does to one flag (the cells of the table of 10_state.md rule R16). -/
inductive FlagUse where
  | unchanged
  | constant (v : Bool)
  | computed
  deriving DecidableEq, Repr

/-- The flag's value after, given the value before. -/
def FlagUse.allows : FlagUse → Bool → Bool → Prop
  | .unchanged, before, after => after = before
  | .constant v, _, after => after = v
  | .computed, _, _ => True

/-- A row of the table of 10_state.md rule R16. -/
structure FlagRow where
  z : FlagUse
  n : FlagUse
  h : FlagUse
  c : FlagUse
  deriving DecidableEq, Repr

/-- The row of an 8-bit operation on `A` (10_state.md rule R16). -/
def AluOp.flagRow : AluOp → FlagRow
  | .add => ⟨.computed, .constant false, .computed, .computed⟩
  | .adc => ⟨.computed, .constant false, .computed, .computed⟩
  | .sub => ⟨.computed, .constant true, .computed, .computed⟩
  | .sbc => ⟨.computed, .constant true, .computed, .computed⟩
  | .and => ⟨.computed, .constant false, .constant true, .constant false⟩
  | .xor => ⟨.computed, .constant false, .constant false, .constant false⟩
  | .or => ⟨.computed, .constant false, .constant false, .constant false⟩
  | .cp => ⟨.computed, .constant true, .computed, .computed⟩

/-- The row of an instruction (the table of 10_state.md rule R16). -/
def Form.flagRow : Form → FlagRow
  | .alu op _ => op.flagRow
  | .inc8 _ => ⟨.computed, .constant false, .computed, .unchanged⟩
  | .dec8 _ => ⟨.computed, .constant true, .computed, .unchanged⟩
  | .addHl _ => ⟨.unchanged, .constant false, .computed, .computed⟩
  | .addSp _ => ⟨.constant false, .constant false, .computed, .computed⟩
  | .ldHlSp _ => ⟨.constant false, .constant false, .computed, .computed⟩
  | .rotA _ => ⟨.constant false, .constant false, .constant false, .computed⟩
  | .shift .swap _ => ⟨.computed, .constant false, .constant false, .constant false⟩
  | .shift _ _ => ⟨.computed, .constant false, .constant false, .computed⟩
  | .bit _ _ => ⟨.computed, .constant false, .constant true, .unchanged⟩
  | .daa => ⟨.computed, .unchanged, .constant false, .computed⟩
  | .cpl => ⟨.unchanged, .constant true, .constant true, .unchanged⟩
  | .scf => ⟨.unchanged, .constant false, .constant false, .constant true⟩
  | .ccf => ⟨.unchanged, .constant false, .constant false, .computed⟩
  | .pop .af => ⟨.computed, .computed, .computed, .computed⟩
  | _ => ⟨.unchanged, .unchanged, .unchanged, .unchanged⟩

/-! ### Conditions, rotates, shifts and bits -/

/-- The condition `cc` holds for these flags (45_control.md rule R240). -/
def Cond.Holds (cc : Cond) (s : Cpu) : Prop :=
  match cc with
  | .nz => s.fZ = false
  | .z => s.fZ = true
  | .nc => s.fC = false
  | .c => s.fC = true

/-- The result of a rotate or shift of `v` as a number (44_rotate_shift_bit.md rules R200 to R219): `{v[6:0], b}` is
`2 * v mod 256` with `b` added, `{b, v[7:1]}` is `v / 2` with `128 * b` added. -/
def shiftNumber (op : ShiftOp) (v : Nat) (c : Bool) : Nat :=
  match op with
  | .rlc => 2 * v % 256 + v / 128
  | .rrc => v / 2 + 128 * (v % 2)
  | .rl => 2 * v % 256 + c.toNat
  | .rr => v / 2 + 128 * c.toNat
  | .sla => 2 * v % 256
  | .sra => v / 2 + 128 * (v / 128)
  | .swap => v % 16 * 16 + v / 16
  | .srl => v / 2

/-- The carry of a rotate or shift of `v` (44_rotate_shift_bit.md rules R200 to R219): the bit shifted out, none for
`SWAP`. -/
def shiftCarryOut (op : ShiftOp) (v : Nat) : Bool :=
  match op with
  | .rlc => decide (v / 128 = 1)
  | .rrc => decide (v % 2 = 1)
  | .rl => decide (v / 128 = 1)
  | .rr => decide (v % 2 = 1)
  | .sla => decide (v / 128 = 1)
  | .sra => decide (v % 2 = 1)
  | .swap => false
  | .srl => decide (v % 2 = 1)

/-- `w` is `v` with bit `b` made `bit`, bit by bit (44_rotate_shift_bit.md rules R222 to
R225). -/
def HasBit (v w : Byte) (b : BitVec 3) (bit : Bool) : Prop :=
  ∀ k, k < 8 → w.getLsbD k = if k = b.toNat then bit else v.getLsbD k

end Sys2Proof
end

