-- ==== Sys2Proof/Certificates/Slice0/Obligations.lean ====
section
/-! DEFINITION. The statements for the provers. Each docstring names the rules of spec/ it formalises; no statement rests on
a free value, a program or a run. -/

open Sys2Proof Sys2Proof.Machine

/-- O1, Decoding an encoded instruction gives it back. For every constructor with every operand value, decoding its
encoding gives exactly it with no byte left; and for every constructor but the bare escape row, whatever bytes
follow the encoding are left over unread. (derived, R101, R102, R103, R104, R106, R107.) -/
def Obligations.DecodeInvertsEncode : Prop :=
  (∀ i : Instr, decode (encode i) = .ok (i, [])) ∧
  ∀ (i : Instr) (rest : List Byte), i ≠ .prefixCb → decode (encode i ++ rest) = .ok (i, rest)

/-- O2, Whatever is decoded is the encoding of what was decoded. If a byte sequence decodes to an instruction with some
bytes left, the sequence is that instruction's encoding followed by those bytes: no two byte sequences mean one
instruction, and no bit is dropped. (derived, R101, R103, R104.) -/
def Obligations.EncodeInvertsDecode : Prop :=
  ∀ (bs : List Byte) (i : Instr) (rest : List Byte), decode bs = .ok (i, rest) → bs = encode i ++ rest

/-- O3, The primary table is the one its bit fields describe. For every opcode byte but the escape and every two bytes
after it, the decoder answers an instruction whose form is the one the fields x, y, z, p, q of the opcode give, with
d8, r8, a8 = byte 1 and d16, a16 = byte 2 and byte 1, and consumes as many bytes as that form has. It rests on the
spec's own decision: the opcode map D13. (derived, R101, R102, R103, R106.) -/
def Obligations.PrimaryTableByFields : Prop :=
  ∀ (op b1 b2 : Byte) (rest : List Byte), op ≠ 0xCB →
    ∃ i, i.form = primaryForm op b1 b2 ∧
      decode (op :: b1 :: b2 :: rest) = .ok (i, (op :: b1 :: b2 :: rest).drop (primaryForm op b1 b2).bytes.length)

/-- O4, The secondary table by its fields, with its costs. For every second byte op2, 0xCB op2 is one two-byte
instruction; its form is the one op2[7:6], op2[5:3] and op2[2:0] give; executing it always answers a next state
whose cost is 8 for a register operand, 12 for BIT b,(HL) and 16 for every other (HL) form. Completion of all 256
secondary constructors. It rests on the spec's own decisions: the opcode map D13 and the costs D4. (derived, R107.) -/
def Obligations.SecondaryTableByFields : Prop :=
  ∀ (op2 : Byte) (rest : List Byte),
    decode (0xCB :: op2 :: rest) = .ok (secondaryRow op2, rest) ∧
    (secondaryRow op2).form = secondaryForm op2 ∧
    ∀ s : State, ∃ t, exec (secondaryRow op2) s = .next t ∧
      t.cost = if op2.extractLsb' 0 3 = 6 then (if op2.extractLsb' 6 2 = 1 then 12 else 16) else 8

/-- O5, Words written out bit by bit decode to the instructions they stand for. One word of each of several families,
its bits taken from the rule's encoding line, decodes to that instruction. (derived, R102, R103, R106, R107.) -/
def Obligations.SampleWordsDecode : Prop :=
  decode [0b01_000_111] = .ok (.ldBA, []) ∧
  decode [0b00_110_110, 0x42] = .ok (.ldMemHlD8 0x42, []) ∧
  decode [0b00_10_0001, 0x34, 0x12] = .ok (.ldHlD16 0x1234, []) ∧
  decode [0b10_011_100] = .ok (.sbcAH, []) ∧
  decode [0b00_11_1001] = .ok (.addHlSp, []) ∧
  decode [0b11001011, 0b01_111_100] = .ok (.cbBit7H, []) ∧
  decode [0b110_01_100, 0x34, 0x12] = .ok (.callZA16 0x1234, []) ∧
  decode [0b11_101_111] = .ok (.rst28, [])

/-- O6, The eleven unassigned opcodes, and only they, fault. An instruction's form is an unassigned one exactly if its
encoding is one byte among the eleven opcodes rule R105 lists. Executing one always faults with that opcode byte and
the address before the program counter (the address it was fetched from). No other instruction faults, and no
instruction faults otherwise. A running machine that takes no interrupt and finds such a byte, unclaimed by a
handler, at its program counter faults with that byte and that address. It rests on the spec's own decision: D14.
(derived, R105, R270.) -/
def Obligations.UnassignedOpcodesFault : Prop :=
  (∀ op : Byte, (∃ i : Instr, encode i = [op] ∧ i.form = .unassigned op) ↔ op ∈ unassignedOpcodes) ∧
  (∀ (i : Instr) (op : Byte) (s : State), i.form = .unassigned op →
    op ∈ unassignedOpcodes ∧ encode i = [op] ∧ exec i s = .fault (.illegalOpcode op (s.cpu.pc - 1))) ∧
  (∀ (i : Instr) (s : State) (r : Fault), exec i s = .fault r →
    ∃ op, op ∈ unassignedOpcodes ∧ i.form = .unassigned op ∧ r = .illegalOpcode op (s.cpu.pc - 1)) ∧
  ∀ (s : State) (op : Byte), op ∈ unassignedOpcodes → s.cpu.run = .running →
    s.bus.forwardsTo addrInterruptFlag = none → s.cpu.ime = false ∨ s.pending = 0 →
    s.bus.forwardsTo s.cpu.pc = none → s.bus.rawRead s.cpu.pc = op →
    step s = .fault (.illegalOpcode op s.cpu.pc)

/-- O7, A step runs the decoded instruction. When the machine is running, no interrupt is taken (IME is false or nothing
enabled is pending) and the n bytes at the program counter, none of them claimed by a handler, decode to an
instruction, the step is that instruction's meaning in the state with the program counter moved past them; then a
pending enable that was pending before the instruction and is still pending takes effect. It rests on the spec's own
decision: D16. (derived, R101, R274, R275.) -/
def Obligations.StepRunsDecoded : Prop :=
  ∀ (s : State) (n : Nat) (i : Instr),
    s.cpu.run = .running → s.bus.forwardsTo addrInterruptFlag = none → s.cpu.ime = false ∨ s.pending = 0 →
    s.codeUnclaimed n → decode (s.codeBytes n) = .ok (i, []) →
    step s =
      match exec i { s with cpu := { s.cpu with pc := s.cpu.pc + BitVec.ofNat 16 n } } with
      | .next t =>
        .next (if s.cpu.eiDelay ∧ t.cpu.eiDelay then
          { t with cpu := { t.cpu with ime := true, eiDelay := false } } else t)
      | .fault r => .fault r
      | .refused r => .refused r

/-- O8, The escape row fetches a second byte and runs its secondary instruction. Executing the bare escape row is
fetching one more byte through the bus and executing the secondary table's instruction of that byte, the effect rule
R101 gives the escape byte in a step; it always answers a next state. The escape byte is not an instruction by
itself (R104): that the bare row is a constructor with a meaning of its own is the model's choice (DESIGN CHOICE,
log entry 10). (derived, R101, R104.) -/
def Obligations.EscapeRunsSecondary : Prop :=
  ∀ s : State,
    exec .prefixCb s =
      exec (secondaryRow (s.bus.read s.cpu.pc).1)
        { s with cpu := { s.cpu with pc := s.cpu.pc + 1 }, bus := (s.bus.read s.cpu.pc).2 } ∧
    ∃ t, exec .prefixCb s = .next t

/-- O9, A halted machine idles until an enabled interrupt is pending, then wakes in the same step. With both bytes read
through the bus, IE first: if IE & IF & 0x1F is 0 a halted step changes nothing (but what a handler of IF did to the
bus) and costs 4; otherwise the step is the step of the same machine running, whatever IME is: it dispatches or
executes the instruction at PC. It rests on the spec's own decision: D18. (derived, R273.) -/
def Obligations.HaltedStep : Prop :=
  ∀ s : State, s.cpu.run = .halted →
    let e := s.bus.read addrInterruptEnable
    let f := e.2.read addrInterruptFlag
    (e.1 &&& f.1 &&& 0x1F = 0 → step s = .next { s with bus := f.2, cost := 4 }) ∧
    (e.1 &&& f.1 &&& 0x1F ≠ 0 → step s = step { s with cpu := { s.cpu with run := .running } })

/-- O10, Taking an interrupt. If IME is true and n is the lowest set bit of IE & IF & 0x1F (both read through the bus),
the step writes IF with bit n cleared, clears IME, pushes PC high byte first at SP-1 and SP-2, goes to 0x0040 + 8n,
runs, and costs 20. Registers and flags are unchanged. It rests on the spec's own decision: D17. (derived, R276.) -/
def Obligations.DispatchEntry : Prop :=
  ∀ (s : State) (n : Nat), s.cpu.ime = true →
    let e := s.bus.read addrInterruptEnable
    let f := e.2.read addrInterruptFlag
    n < 5 → (e.1 &&& f.1 &&& 0x1F).getLsbD n = true → (∀ m, m < n → (e.1 &&& f.1 &&& 0x1F).getLsbD m = false) →
    step s = .next
      { cpu := { s.cpu with
          run := .running, ime := false, sp := s.cpu.sp - 2, pc := BitVec.ofNat 16 (0x0040 + 8 * n) }
        bus := ((f.2.write 0xFF0F (f.1 &&& ~~~((1 : Byte) <<< n))).write (s.cpu.sp - 1)
          (s.cpu.pc.extractLsb' 8 8)).write (s.cpu.sp - 2) (s.cpu.pc.extractLsb' 0 8)
        cost := 20 }

/-- O11, The lowest-numbered pending source is taken, the others stay pending. With IF and the two stack addresses
unclaimed and not the address of IF itself: if IME is true and some enabled source is pending, the step answers a
next state whose PC is the vector of the lowest-numbered one, and IF afterwards is what it was with only that bit
cleared. It rests on the spec's own decision: D17. (derived, R272, R275, R277.) -/
def Obligations.LowestSourceFirst : Prop :=
  ∀ s : State, s.cpu.ime = true → s.pending ≠ 0 →
    s.bus.forwardsTo addrInterruptFlag = none → s.bus.forwardsTo (s.cpu.sp - 1) = none →
    s.bus.forwardsTo (s.cpu.sp - 2) = none → s.cpu.sp - 1 ≠ addrInterruptFlag → s.cpu.sp - 2 ≠ addrInterruptFlag →
    ∃ n t, n < 5 ∧ s.pending.getLsbD n = true ∧ (∀ m, m < n → s.pending.getLsbD m = false) ∧
      step s = .next t ∧ t.cpu.pc = BitVec.ofNat 16 (0x0040 + 8 * n) ∧
      ∀ k, k < 8 → (t.bus.rawRead addrInterruptFlag).getLsbD k =
        if k = n then false else (s.bus.rawRead addrInterruptFlag).getLsbD k

/-- O12, A pending enable lasts one instruction. In a running machine with an enable pending and IME false, a step that
answers a next state leaves no enable pending, and leaves IME false if the instruction it ran was DI and true
otherwise. It rests on the spec's own decision: D16. (derived, R18, R253, R254, R274.) -/
def Obligations.EnableTakesEffectNextStep : Prop :=
  ∀ (s t : State) (n : Nat) (i : Instr), s.cpu.run = .running → s.cpu.eiDelay = true → s.cpu.ime = false →
    s.bus.forwardsTo addrInterruptFlag = none → s.codeUnclaimed n → decode (s.codeBytes n) = .ok (i, []) →
    step s = .next t →
    t.cpu.eiDelay = false ∧ t.cpu.ime = if i = .di then false else true

/-- O13, The invariant holds at reset. Every buffer is in canonical form and has its size, the banking state is one its
controller allows, the guard is idle, and no enable is pending while IME is true. The reset values it rests on are
the spec's (its decisions D5, D7; log entries 1 to 3). (derived, R18, R20, R23, R31, R70.) -/
def Obligations.InvariantAtReset : Prop :=
  State.Inv State.reset

/-- O14, Every step keeps the invariant. From every state that meets the invariant, whatever program, handlers and
parameters it has, a step that answers a next state answers one that meets it: canonical buffers of the right sizes,
ROM bank indices with nonzero low five bits, frozen banking without a controller, the guard idle, and a pending
enable only while IME is false. (derived, R18, R20, R23, R26, R58, R70, R75.) -/
def Obligations.InvariantKeptByStep : Prop :=
  ∀ s t : State, s.Inv → step s = .next t → t.Inv

/-- O15, No step changes the ROMs, the parameters, the gates, the handler table or the controller kind. From every
state, a step that answers a next state leaves both ROM images, every session parameter, both access gates, the
handler table and the controller kind as they were, handlers included: only the host changes them. (derived, R22,
R24, R33, R45, R66, R70.) -/
def Obligations.HostSideUntouched : Prop :=
  ∀ s t : State, step s = .next t →
    t.bus.hostSide = s.bus.hostSide ∧ t.bus.mbc.kind = s.bus.mbc.kind

/-- O16, The boot latch never comes back and the serial log only grows. A step from a state whose boot latch is clear
leaves it clear; the serial log before a step is a prefix of the one after. It rests on the spec's own decision:
D23. (derived, R21, R25, R60, R61.) -/
def Obligations.BootLatchAndLogOneWay : Prop :=
  ∀ s t : State, step s = .next t →
    (s.bus.booting = false → t.bus.booting = false) ∧ s.bus.serialLog <+: t.bus.serialLog

/-- O17, A step always has a next state, but for the fault of an unassigned opcode. From every state a step answers a
next state, or faults with one of the eleven unassigned opcodes; it never refuses, and no other fault is reachable.
It rests on the spec's own decision: D14. (derived, R105, R270, R271, R280.) -/
def Obligations.OnlyUnassignedOpcodesFault : Prop :=
  ∀ s : State, (∃ t, step s = .next t) ∨
    ∃ op addr, op ∈ unassignedOpcodes ∧ step s = .fault (.illegalOpcode op addr)

/-- O18, Every step costs 4, 8, 12, 16, 20 or 24 cycles. The cost of every step that answers a next state is a positive
multiple of four of at most 24. It rests on the spec's own decisions: D4, D17, D18. (derived, R106, R107, R108,
R273, R276, R297.) -/
def Obligations.StepCosts : Prop :=
  ∀ s t : State, step s = .next t → t.cost ∈ [4, 8, 12, 16, 20, 24]

/-- O19, Without a controller the banking state never changes. If CART_TYPE selects no controller and the banking
registers are at their reset values, every write to the ROM range leaves the address space as it was, and every step
leaves the whole banking state as it was. It rests on the spec's own decision: D9. (derived, R73.) -/
def Obligations.NoControllerFrozen : Prop :=
  (∀ (b : Bus) (a : Word) (v : Byte), b.mbc.kind = .none → a.toNat < 0x8000 → b.write a v = b) ∧
  ∀ s t : State, s.bus.mbc.kind = .none → s.bus.mbc.Allowed → step s = .next t → t.bus.mbc = s.bus.mbc

/-- O20, The address map, and the interrupt-enable byte at its end. Every address goes to exactly the row of the map
whose range holds it, with the index from the range's start; 0xFFFF reads and writes all eight bits of IO[0x80] and
is never forwarded to a handler. It rests on the spec's own decisions: D2, D12. (derived, R40, R53, R55.) -/
def Obligations.AddressMapAndInterruptEnable : Prop :=
  (∀ (b : Bus) (v : Byte), b.forwardsTo 0xFFFF = none ∧ b.read 0xFFFF = (readCell b.io 0x80, b) ∧
    b.write 0xFFFF v = { b with io := writeCell b.io 0x80 v } ∧
    (b.write 0xFFFF v).read 0xFFFF = (v, b.write 0xFFFF v)) ∧
  ∀ a : Word,
    (a.toNat < 0x8000 → route a = .rom a.toNat) ∧
    (0x8000 ≤ a.toNat ∧ a.toNat < 0xA000 → route a = .vram (a.toNat - 0x8000)) ∧
    (0xA000 ≤ a.toNat ∧ a.toNat < 0xC000 → route a = .eram (a.toNat - 0xA000)) ∧
    (0xC000 ≤ a.toNat ∧ a.toNat < 0xE000 → route a = .wram (a.toNat - 0xC000)) ∧
    (0xE000 ≤ a.toNat ∧ a.toNat < 0xFE00 → route a = .echo (a.toNat - 0xE000)) ∧
    (0xFE00 ≤ a.toNat ∧ a.toNat < 0xFEA0 → route a = .oam (a.toNat - 0xFE00)) ∧
    (0xFEA0 ≤ a.toNat ∧ a.toNat < 0xFF00 → route a = .unusable) ∧
    (0xFF00 ≤ a.toNat ∧ a.toNat < 0xFF80 → route a = .io (a.toNat - 0xFF00)) ∧
    (0xFF80 ≤ a.toNat ∧ a.toNat < 0xFFFF → route a = .hram (a.toNat - 0xFF80)) ∧
    (a.toNat = 0xFFFF → route a = .interruptEnable)

/-- O21, Work RAM, its echo, and high RAM. Work RAM and high RAM read and write their own bytes with no side effect; an
access in the echo window is the same access 0x2000 lower, so a byte written in one window is read in the other.
(stated, R48, R49, R52.) -/
def Obligations.WorkRamEchoAndHighRam : Prop :=
  (∀ (b : Bus) (a : Word) (v : Byte), 0xC000 ≤ a.toNat ∧ a.toNat < 0xE000 →
    b.read a = (readCell b.wram (a.toNat - 0xC000), b) ∧
    b.write a v = { b with wram := writeCell b.wram (a.toNat - 0xC000) v } ∧ (b.write a v).read a = (v, b.write a v)) ∧
  (∀ (b : Bus) (a : Word) (v : Byte), 0xFF80 ≤ a.toNat ∧ a.toNat < 0xFFFF →
    b.read a = (readCell b.hram (a.toNat - 0xFF80), b) ∧
    b.write a v = { b with hram := writeCell b.hram (a.toNat - 0xFF80) v } ∧ (b.write a v).read a = (v, b.write a v)) ∧
  ∀ (b : Bus) (a : Word) (v : Byte), 0xE000 ≤ a.toNat ∧ a.toNat < 0xFE00 →
    b.read a = b.read (a - 0x2000) ∧ b.write a v = b.write (a - 0x2000) v ∧
    b.read a = (readCell b.wram (a.toNat - 0xE000), b) ∧
    (b.write a v).read (a - 0x2000) = (v, b.write a v) ∧
    (b.write (a - 0x2000) v).read a = (v, b.write (a - 0x2000) v)

/-- O22, Video RAM and the sprite table behind their gates; the unusable region. With the gate open the byte is read and
written, with it closed reads give FILL and writes are dropped, each region by its own gate; the unusable region
reads 0x00 and drops writes. It rests on the spec's own decision: D1 (the value FILL is a parameter of the
statement). (derived, R46, R50, R51.) -/
def Obligations.GatesAndUnusable : Prop :=
  (∀ (b : Bus) (a : Word) (v : Byte), 0x8000 ≤ a.toNat ∧ a.toNat < 0xA000 →
    b.read a = (if b.vramGate then readCell b.vram (a.toNat - 0x8000) else b.params.fill, b) ∧
    b.write a v = if b.vramGate then { b with vram := writeCell b.vram (a.toNat - 0x8000) v } else b) ∧
  (∀ (b : Bus) (a : Word) (v : Byte), 0xFE00 ≤ a.toNat ∧ a.toNat < 0xFEA0 →
    b.read a = (if b.oamGate then readCell b.oam (a.toNat - 0xFE00) else b.params.fill, b) ∧
    b.write a v = if b.oamGate then { b with oam := writeCell b.oam (a.toNat - 0xFE00) v } else b) ∧
  ∀ (b : Bus) (a : Word) (v : Byte), 0xFEA0 ≤ a.toNat ∧ a.toNat < 0xFF00 →
    b.read a = (0x00, b) ∧ b.write a v = b

/-- O23, Reads of the ROM range. While booting, the lowest 256 addresses read the boot ROM, or FILL past its end;
elsewhere the fixed window reads offset a and the switchable window reads offset rom_bank * 0x4000 + (a - 0x4000) of
the ROM, wrapped modulo its length, FILL for an empty ROM. No read changes the address space. It rests on the spec's
own decision: D8. (derived, R43, R44, R71, R72, R83.) -/
def Obligations.RomRangeReads : Prop :=
  ∀ (b : Bus) (a : Word), a.toNat < 0x8000 →
    let romAt (off : Nat) : Byte :=
      if b.params.rom.len = 0 then b.params.fill else readCell b.params.rom.cells (off % b.params.rom.len)
    b.read a =
      (if b.booting = true ∧ a.toNat ≤ 0x00FF then
        (if a.toNat < b.params.boot.len then readCell b.params.boot.cells a.toNat else b.params.fill)
      else if a.toNat < 0x4000 then romAt a.toNat
      else romAt (b.mbc.romBank.toNat * 0x4000 + (a.toNat - 0x4000)), b)

/-- O24, Control writes of the banked scheme. With the banked scheme a write to the ROM range, whatever the boot latch
is, changes one banking register: the RAM enable (low nibble 0xA), the low five bits of the ROM bank index (0 taken
as 1), the high two bits of it or the RAM bank by the banking mode, the banking mode. No ROM byte changes. It rests
on the spec's own decision: D10. (derived, R74, R75, R76, R77.) -/
def Obligations.BankControlWrites : Prop :=
  ∀ (b : Bus) (a : Word) (v : Byte), b.mbc.kind = .mbc1 →
    (a.toNat < 0x2000 →
      b.write a v = { b with mbc := { b.mbc with ramEnable := decide (v.toNat % 16 = 10) } }) ∧
    (0x2000 ≤ a.toNat ∧ a.toNat < 0x4000 →
      ∃ bank, b.write a v = { b with mbc := { b.mbc with romBank := bank } } ∧
        bank.toNat = b.mbc.romBank.toNat / 32 * 32 + (if v.toNat % 32 = 0 then 1 else v.toNat % 32)) ∧
    (0x4000 ≤ a.toNat ∧ a.toNat < 0x6000 ∧ b.mbc.bankMode = 0 →
      ∃ bank, b.write a v = { b with mbc := { b.mbc with romBank := bank } } ∧
        bank.toNat = v.toNat % 4 * 32 + b.mbc.romBank.toNat % 32) ∧
    (0x4000 ≤ a.toNat ∧ a.toNat < 0x6000 ∧ b.mbc.bankMode = 1 →
      ∃ bank, b.write a v = { b with mbc := { b.mbc with ramBank := bank } } ∧ bank.toNat = v.toNat % 4) ∧
    (0x6000 ≤ a.toNat ∧ a.toNat < 0x8000 →
      ∃ mode, b.write a v = { b with mbc := { b.mbc with bankMode := mode } } ∧ mode.toNat = v.toNat % 2)

/-- O25, The external-RAM window. With the RAM enabled and present, offset i of the window is index (ram_bank * 0x2000 +
i) mod ERAM_SIZE of the external RAM, for reads and writes; otherwise reads give FILL and writes are dropped. It
rests on the spec's own decision: D11. (derived, R47, R78, R79.) -/
def Obligations.ExternalRam : Prop :=
  ∀ (b : Bus) (a : Word) (v : Byte), 0xA000 ≤ a.toNat ∧ a.toNat < 0xC000 →
    let index := (b.mbc.ramBank.toNat * 0x2000 + (a.toNat - 0xA000)) % b.params.eramSize
    (b.mbc.ramEnable = false ∨ b.params.eramSize = 0 → b.read a = (b.params.fill, b) ∧ b.write a v = b) ∧
    (b.mbc.ramEnable = true ∧ 0 < b.params.eramSize →
      b.read a = (readCell b.mbc.eram index, b) ∧
      b.write a v = { b with mbc := { b.mbc with eram := writeCell b.mbc.eram index v } })

/-- O26, The I/O window where no handler takes the access: raw storage, the serial log, the boot latch. An access that
is forwarded to no handler reads or writes the stored byte; a write to 0xFF02, of whatever value, appends the stored
byte of 0xFF01 to the serial log; a nonzero write to 0xFF50 clears the boot latch and a zero write leaves it. It
rests on the spec's own decision: D23. (derived, R56, R57, R60, R61.) -/
def Obligations.IoWindowUnclaimed : Prop :=
  ∀ (b : Bus) (a : Word) (v : Byte), 0xFF00 ≤ a.toNat ∧ a.toNat < 0xFF80 → b.forwardsTo a = none →
    b.read a = (readCell b.io (a.toNat - 0xFF00), b) ∧
    b.write a v = { b with
      io := writeCell b.io (a.toNat - 0xFF00) v
      serialLog := if a = 0xFF02 then b.serialLog ++ [readCell b.io 0x01] else b.serialLog
      booting := if a = 0xFF50 ∧ v ≠ 0 then false else b.booting }

/-- O27, The I/O window where a handler takes the access. A handler takes an access exactly if the address is in the I/O
window, the handler holds it and the guard is idle. A forwarded read answers the handler's byte and leaves what its
course did to the bus; a forwarded write has its two side effects, then the handler's course, and does not itself
store the byte; while the course runs the guard is up, and it is idle afterwards. What a handler does is a free
value numbered by the model's own counter (log entry 6). It rests on the spec's own decision: D23. (derived, R56,
R57, R58, R65.) -/
def Obligations.IoWindowForwarded : Prop :=
  ∀ (b : Bus) (a : Word) (v : Byte) (h : Nat),
    (b.forwardsTo a = some h ↔ 0xFF00 ≤ a.toNat ∧ a.toNat < 0xFF80 ∧ b.guard = .idle ∧
      handlerHolding b.handlerAt (a.toNat - 0xFF00) = some h) ∧
    (b.forwardsTo a = some h →
      (let r := runHandler (Config.handlerRead h a b.draws) { b with guard := .dispatching, draws := b.draws + 1 }
       b.read a = (r.1, { r.2 with guard := .idle })) ∧
      (let r := runHandler (Config.handlerWrite h a v b.draws) { b with
          serialLog := if a = 0xFF02 then b.serialLog ++ [readCell b.io 0x01] else b.serialLog
          booting := if a = 0xFF50 ∧ v ≠ 0 then false else b.booting
          guard := .dispatching
          draws := b.draws + 1 }
       b.write a v = { r.2 with guard := .idle }))

/-- O28, Nested accesses go to raw storage. While a handler invocation runs, no access is forwarded: an I/O-window read
gives the stored byte, an I/O-window write stores the byte after its side effects, an access elsewhere is what it is
with the guard idle; each nested access of a handler's course is such an access, and the guard stays up for the
whole course. It rests on the spec's own decision: D30. (derived, R59.) -/
def Obligations.NestedAccessesBypass : Prop :=
  (∀ (b : Bus) (a : Word) (v : Byte), b.guard = .dispatching →
    b.forwardsTo a = none ∧ b.read a = (b.rawRead a, b) ∧ b.write a v = b.rawWrite a v ∧
    (0xFF00 ≤ a.toNat ∧ a.toNat < 0xFF80 →
      (b.read a).1 = readCell b.io (a.toNat - 0xFF00) ∧
      (b.write a v).io = writeCell b.io (a.toNat - 0xFF00) v) ∧
    (a.toNat < 0xFF00 ∨ 0xFF80 ≤ a.toNat →
      (b.read a).1 = (({ b with guard := .idle } : Bus).read a).1 ∧
      b.write a v = { ({ b with guard := .idle } : Bus).write a v with guard := .dispatching })) ∧
  ∀ (b : Bus) (a : Word) (v : Byte) (k : Byte → HandlerRun) (k' : HandlerRun), b.guard = .dispatching →
    runHandler (.read a k) b = runHandler (k (b.read a).1) (b.read a).2 ∧
    runHandler (.write a v k') b = runHandler k' (b.write a v) ∧
    (runHandler k' b).2.guard = .dispatching

/-- O29, Registering and unregistering a handler. After registration of h each address of the I/O window belongs to h if
h claims it, otherwise to whom it belonged before unless that was h; after unregistration the addresses h held
belong to no one and the others are as before. Nothing else of the machine changes. (stated, R63, R64.) -/
def Obligations.HandlerRegistration : Prop :=
  ∀ (s : State) (h : Nat) (claims : Word → Bool) (i : Nat), i < 0x80 →
    handlerHolding (s.registerHandler h claims).bus.handlerAt i =
      (if claims (0xFF00 + BitVec.ofNat 16 i) then some h
       else if handlerHolding s.bus.handlerAt i = some h then none else handlerHolding s.bus.handlerAt i) ∧
    handlerHolding (s.unregisterHandler h).bus.handlerAt i =
      (if handlerHolding s.bus.handlerAt i = some h then none else handlerHolding s.bus.handlerAt i) ∧
    (∃ table, s.registerHandler h claims = { s with bus := { s.bus with handlerAt := table } }) ∧
    ∃ table, s.unregisterHandler h = { s with bus := { s.bus with handlerAt := table } }

/-- O30, What a write can change, and what it stores. A write that no handler takes leaves every byte reading as before
but those it can reach: the addresses with the same storage behind them, the banked windows for a bank-control
write, the overlay for a write to the boot-mode register. Where the storage keeps what it is given, the address
written reads back the byte. (derived, R41, R42, R82.) -/
def Obligations.WriteFrame : Prop :=
  (∀ (b : Bus) (a x : Word) (v : Byte), b.aliases a x = false → (b.rawWrite a v).rawRead x = b.rawRead x) ∧
  ∀ (b : Bus) (a : Word) (v : Byte), b.retains a = true → (b.rawWrite a v).rawRead a = v

/-- O31, LD d,s, LD r,d8, LD d,(HL), LD (HL),s and LD (HL),d8. Encodings, results, costs: a register, an immediate or
the byte at HL (its address taken before the destination is written) goes to the destination register, or a register
or immediate to the byte at HL, through the bus; no flag and nothing else changes. (stated, R120, R121, R123, R124,
R125.) -/
def Obligations.Loads8 : Prop :=
  (∀ (i : Instr) (d r : Reg8) (s : State), i.form = .ldRegReg d r →
    encode i = [0b01#2 ++ d.code ++ r.code] ∧
    exec i s = .next { s with cpu := s.cpu.setReg d (s.cpu.reg r), cost := 4 }) ∧
  (∀ (i : Instr) (r : Reg8) (d8 : Byte) (s : State), i.form = .ldRegImm r d8 →
    encode i = [0b00#2 ++ r.code ++ 0b110#3, d8] ∧
    exec i s = .next { s with cpu := s.cpu.setReg r d8, cost := 8 }) ∧
  (∀ (i : Instr) (d : Reg8) (s : State), i.form = .ldRegMem d →
    encode i = [0b01#2 ++ d.code ++ 0b110#3] ∧
    exec i s = .next { cpu := s.cpu.setReg d (s.bus.read s.cpu.hl).1, bus := (s.bus.read s.cpu.hl).2, cost := 8 }) ∧
  (∀ (i : Instr) (r : Reg8) (s : State), i.form = .ldMemReg r →
    encode i = [0b01110#5 ++ r.code] ∧
    exec i s = .next { s with bus := s.bus.write s.cpu.hl (s.cpu.reg r), cost := 8 }) ∧
  ∀ (i : Instr) (d8 : Byte) (s : State), i.form = .ldMemImm d8 →
    encode i = [0x36, d8] ∧ exec i s = .next { s with bus := s.bus.write s.cpu.hl d8, cost := 12 }

/-- O32, LD A,(BC), LD A,(DE), LD A,(HL+), LD A,(HL-) and the four stores. A is loaded from or stored to the address in
the pair; with HL+ and HL- the pair HL is then one higher or lower, wrapping; nothing else changes. (stated, R126,
R127, R134, R135, R136, R137.) -/
def Obligations.LoadsAndStoresOfAThroughPairs : Prop :=
  (∀ (i : Instr) (p : Ptr) (s : State), i.form = .ldAPtr p →
    let addr := match p with
      | .bc => s.cpu.bc
      | .de => s.cpu.de
      | .hlInc => s.cpu.hl
      | .hlDec => s.cpu.hl
    let cpu : Cpu := { s.cpu with a := (s.bus.read addr).1 }
    encode i = [0b00#2 ++ p.code ++ 0b1010#4] ∧
    exec i s = .next
      { cpu := match p with
          | .bc => cpu
          | .de => cpu
          | .hlInc => cpu.setHl (s.cpu.hl + 1)
          | .hlDec => cpu.setHl (s.cpu.hl - 1)
        bus := (s.bus.read addr).2
        cost := 8 }) ∧
  ∀ (i : Instr) (p : Ptr) (s : State), i.form = .ldPtrA p →
    let addr := match p with
      | .bc => s.cpu.bc
      | .de => s.cpu.de
      | .hlInc => s.cpu.hl
      | .hlDec => s.cpu.hl
    encode i = [0b00#2 ++ p.code ++ 0b0010#4] ∧
    exec i s = .next
      { cpu := match p with
          | .bc => s.cpu
          | .de => s.cpu
          | .hlInc => s.cpu.setHl (s.cpu.hl + 1)
          | .hlDec => s.cpu.setHl (s.cpu.hl - 1)
        bus := s.bus.write addr s.cpu.a
        cost := 8 }

/-- O33, LD A,(a16), LD (a16),A, LDH and LD (C). A is loaded from or stored to the absolute address, or to 0xFF00 plus
the operand byte or C; nothing else changes. (stated, R128, R129, R130, R131, R132, R133.) -/
def Obligations.LoadsAndStoresOfAAbsolute : Prop :=
  (∀ (i : Instr) (a16 : Word) (s : State), i.form = .ldAAbs a16 →
    encode i = [0xFA, a16.extractLsb' 0 8, a16.extractLsb' 8 8] ∧
    exec i s = .next { cpu := { s.cpu with a := (s.bus.read a16).1 }, bus := (s.bus.read a16).2, cost := 16 }) ∧
  (∀ (i : Instr) (a16 : Word) (s : State), i.form = .ldAbsA a16 →
    encode i = [0xEA, a16.extractLsb' 0 8, a16.extractLsb' 8 8] ∧
    exec i s = .next { s with bus := s.bus.write a16 s.cpu.a, cost := 16 }) ∧
  (∀ (i : Instr) (a8 : Byte) (s : State), i.form = .ldhStore a8 →
    encode i = [0xE0, a8] ∧
    exec i s = .next { s with bus := s.bus.write (0xFF00 + a8.zeroExtend 16) s.cpu.a, cost := 12 }) ∧
  (∀ (i : Instr) (a8 : Byte) (s : State), i.form = .ldhLoad a8 →
    let r := s.bus.read (0xFF00 + a8.zeroExtend 16)
    encode i = [0xF0, a8] ∧ exec i s = .next { cpu := { s.cpu with a := r.1 }, bus := r.2, cost := 12 }) ∧
  (∀ (i : Instr) (s : State), i.form = .ldHighCA →
    encode i = [0xE2] ∧
    exec i s = .next { s with bus := s.bus.write (0xFF00 + s.cpu.c.zeroExtend 16) s.cpu.a, cost := 8 }) ∧
  ∀ (i : Instr) (s : State), i.form = .ldAHighC →
    let r := s.bus.read (0xFF00 + s.cpu.c.zeroExtend 16)
    encode i = [0xF2] ∧ exec i s = .next { cpu := { s.cpu with a := r.1 }, bus := r.2, cost := 8 }

/-- O34, LD rr,d16, LD SP,HL, LD (a16),SP and LD HL,SP+r8. The pair or SP is loaded; SP is stored low byte first at a16
and a16 + 1; HL becomes SP plus the signed byte, with fZ and fN clear and fH, fC the carries of adding the byte,
unsigned, to the low byte of SP (the spec's own decision D20; log entry 23). (derived, R140, R141, R142, R147.) -/
def Obligations.Loads16 : Prop :=
  (∀ (i : Instr) (rr : Pair) (d16 : Word) (s : State), i.form = .ldPairImm rr d16 →
    encode i = [0b00#2 ++ rr.code ++ 0b0001#4, d16.extractLsb' 0 8, d16.extractLsb' 8 8] ∧
    exec i s = .next { s with
      cpu := match rr with
        | .bc => { s.cpu with b := d16.extractLsb' 8 8, c := d16.extractLsb' 0 8 }
        | .de => { s.cpu with d := d16.extractLsb' 8 8, e := d16.extractLsb' 0 8 }
        | .hl => { s.cpu with h := d16.extractLsb' 8 8, l := d16.extractLsb' 0 8 }
        | .sp => { s.cpu with sp := d16 }
      cost := 12 }) ∧
  (∀ (i : Instr) (s : State), i.form = .ldSpHl →
    encode i = [0xF9] ∧ exec i s = .next { s with cpu := { s.cpu with sp := s.cpu.h ++ s.cpu.l }, cost := 8 }) ∧
  (∀ (i : Instr) (a16 : Word) (s : State), i.form = .ldAbsSp a16 →
    encode i = [0x08, a16.extractLsb' 0 8, a16.extractLsb' 8 8] ∧
    exec i s = .next { s with
      bus := (s.bus.write a16 (s.cpu.sp.extractLsb' 0 8)).write (a16 + 1) (s.cpu.sp.extractLsb' 8 8)
      cost := 20 }) ∧
  ∀ (i : Instr) (r8 : Byte) (s : State), i.form = .ldHlSp r8 →
    ∃ hl : Word, hl.toInt = (s.cpu.sp.toInt + r8.toInt).bmod 65536 ∧
      encode i = [0xF8, r8] ∧
      exec i s = .next { s with
        cpu := { s.cpu with
          h := hl.extractLsb' 8 8, l := hl.extractLsb' 0 8, fZ := false, fN := false
          fH := decide (s.cpu.sp.toNat % 16 + r8.toNat % 16 > 0xF)
          fC := decide (s.cpu.sp.toNat % 256 + r8.toNat > 0xFF) }
        cost := 12 }

/-- O35, PUSH qq and PUSH AF. The high byte is written at SP-1, then the low byte at SP-2, through the bus; SP ends two
lower whether or not the bytes are stored; the low byte of AF is the packed flags with its low four bits zero;
nothing else changes. (stated, R143, R144, R148.) -/
def Obligations.Pushes : Prop :=
  ∀ (i : Instr) (qq : StackPair) (s : State), i.form = .push qq →
    let v : Byte × Byte := match qq with
      | .bc => (s.cpu.b, s.cpu.c)
      | .de => (s.cpu.d, s.cpu.e)
      | .hl => (s.cpu.h, s.cpu.l)
      | .af => (s.cpu.a, BitVec.ofNat 8
          (128 * s.cpu.fZ.toNat + 64 * s.cpu.fN.toNat + 32 * s.cpu.fH.toNat + 16 * s.cpu.fC.toNat))
    encode i = [0b11#2 ++ qq.code ++ 0b0101#4] ∧
    exec i s = .next
      { cpu := { s.cpu with sp := s.cpu.sp - 2 }
        bus := (s.bus.write (s.cpu.sp - 1) v.1).write (s.cpu.sp - 2) v.2
        cost := 16 }

/-- O36, POP qq and POP AF. The low byte is read at SP, then the high byte at SP+1, through the bus; SP ends two higher;
the pair is written, for AF the four flags from bits 7 to 4 of the low byte; nothing else changes. (stated, R145,
R146, R149.) -/
def Obligations.Pops : Prop :=
  ∀ (i : Instr) (qq : StackPair) (s : State), i.form = .pop qq →
    let lo := s.bus.read s.cpu.sp
    let hi := lo.2.read (s.cpu.sp + 1)
    let cpu : Cpu := { s.cpu with sp := s.cpu.sp + 2 }
    encode i = [0b11#2 ++ qq.code ++ 0b0001#4] ∧
    exec i s = .next
      { cpu := match qq with
          | .bc => { cpu with b := hi.1, c := lo.1 }
          | .de => { cpu with d := hi.1, e := lo.1 }
          | .hl => { cpu with h := hi.1, l := lo.1 }
          | .af => { cpu with
              a := hi.1
              fZ := decide (lo.1.toNat / 128 % 2 = 1)
              fN := decide (lo.1.toNat / 64 % 2 = 1)
              fH := decide (lo.1.toNat / 32 % 2 = 1)
              fC := decide (lo.1.toNat / 16 % 2 = 1) }
        bus := hi.2
        cost := 12 }

/-- O37, A push followed by a pop of the same pair restores every register. If no handler claims the two stack bytes,
both lie in storage that keeps what is written and they are two different bytes of it (an external RAM of one byte
is the one exception), then after a push the pop of the same pair answers a next state with every register, flag and
SP as before the push; for AF this is the lossless packing of the flags. (derived, R13, R80, R148, R149.) -/
def Obligations.PushPopRoundTrip : Prop :=
  ∀ (i j : Instr) (qq : StackPair) (s t : State), i.form = .push qq → j.form = .pop qq →
    s.bus.forwardsTo (s.cpu.sp - 1) = none → s.bus.forwardsTo (s.cpu.sp - 2) = none →
    s.bus.retains (s.cpu.sp - 1) = true → s.bus.retains (s.cpu.sp - 2) = true → s.bus.params.eramSize ≠ 1 →
    exec i s = .next t → ∃ u, exec j t = .next u ∧ u.cpu = s.cpu ∧ u.bus = t.bus

/-- O38, The packed flag byte. Packing puts fZ, fN, fH, fC in bits 7, 6, 5, 4 and zero below; unpacking what was packed
gives the flags back; packing what was unpacked gives the byte with its low four bits cleared. (stated, R13.) -/
def Obligations.FlagsPackAndUnpack : Prop :=
  (∀ z n h c : Bool, (packFlags z n h c).toNat = 128 * z.toNat + 64 * n.toNat + 32 * h.toNat + 16 * c.toNat) ∧
  (∀ (s : Cpu) (z n h c : Bool), s.setF (packFlags z n h c) = { s with fZ := z, fN := n, fH := h, fC := c }) ∧
  ∀ (s : Cpu) (v : Byte), (s.setF v).f = v &&& 0xF0

/-- O39, ADD and ADC of a register, (HL) or an immediate. A becomes the sum modulo 256 of A, the operand and (ADC) the
carry; fZ the result is zero, fN clear, fH the low-nibble sum exceeds 15, fC the sum exceeds 255; nothing else
changes. (stated, R155, R156, R157, R158, R159, R160, R183.) -/
def Obligations.AddAndAddWithCarry : Prop :=
  ∀ (i : Instr) (op : AluOp) (src : AluSrc) (s : State), i.form = .alu op src → op = .add ∨ op = .adc →
    let v := aluOperand s src
    let cin := if op = .adc then s.cpu.fC.toNat else 0
    let sum := s.cpu.a.toNat + v.1.toNat + cin
    encode i = (match src with
      | .opnd o => [0b10#2 ++ op.code ++ o.code]
      | .imm d8 => [0b11#2 ++ op.code ++ 0b110#3, d8]) ∧
    exec i s = .next
      { cpu := { s.cpu with
          a := BitVec.ofNat 8 sum
          fZ := decide (sum % 256 = 0)
          fN := false
          fH := decide (s.cpu.a.toNat % 16 + v.1.toNat % 16 + cin > 0xF)
          fC := decide (sum > 0xFF) }
        bus := v.2.1
        cost := v.2.2 }

/-- O40, SUB and SBC of a register, (HL) or an immediate. A becomes A minus the operand minus (SBC) the carry, modulo
256; fZ the result is zero, fN set, fH the low nibble underflows, fC the subtraction underflows; nothing else
changes. (stated, R161, R162, R163, R164, R165, R166, R184.) -/
def Obligations.SubtractAndSubtractWithCarry : Prop :=
  ∀ (i : Instr) (op : AluOp) (src : AluSrc) (s : State), i.form = .alu op src → op = .sub ∨ op = .sbc →
    let v := aluOperand s src
    let cin := if op = .sbc then s.cpu.fC.toNat else 0
    let diff := s.cpu.a.toNat + 256 - (v.1.toNat + cin)
    encode i = (match src with
      | .opnd o => [0b10#2 ++ op.code ++ o.code]
      | .imm d8 => [0b11#2 ++ op.code ++ 0b110#3, d8]) ∧
    exec i s = .next
      { cpu := { s.cpu with
          a := BitVec.ofNat 8 diff
          fZ := decide (diff % 256 = 0)
          fN := true
          fH := decide (s.cpu.a.toNat % 16 < v.1.toNat % 16 + cin)
          fC := decide (s.cpu.a.toNat < v.1.toNat + cin) }
        bus := v.2.1
        cost := v.2.2 }

/-- O41, AND, XOR and OR of a register, (HL) or an immediate. A becomes the bitwise result; fZ the result is zero, fN
and fC clear, fH set by AND and clear otherwise; nothing else changes. (stated, R167, R168, R169, R170, R171, R172,
R173, R174, R175.) -/
def Obligations.AndXorOr : Prop :=
  ∀ (i : Instr) (op : AluOp) (src : AluSrc) (s : State), i.form = .alu op src → op = .and ∨ op = .xor ∨ op = .or →
    let v := aluOperand s src
    ∃ w : Byte,
      (∀ k, k < 8 → w.getLsbD k =
        match op with
        | .and => s.cpu.a.getLsbD k && v.1.getLsbD k
        | .xor => s.cpu.a.getLsbD k != v.1.getLsbD k
        | _ => s.cpu.a.getLsbD k || v.1.getLsbD k) ∧
      encode i = (match src with
        | .opnd o => [0b10#2 ++ op.code ++ o.code]
        | .imm d8 => [0b11#2 ++ op.code ++ 0b110#3, d8]) ∧
      exec i s = .next
        { cpu := { s.cpu with a := w, fZ := decide (w = 0), fN := false, fH := decide (op = .and), fC := false }
          bus := v.2.1
          cost := v.2.2 }

/-- O42, CP with a register, (HL) or an immediate. fZ exactly if A equals the operand, fN set, fH the low nibble
underflows, fC exactly if A is smaller; A and everything else are unchanged. (stated, R176, R177, R178, R184.) -/
def Obligations.Compare : Prop :=
  ∀ (i : Instr) (src : AluSrc) (s : State), i.form = .alu .cp src →
    let v := aluOperand s src
    encode i = (match src with
      | .opnd o => [0b10111#5 ++ o.code]
      | .imm d8 => [0xFE, d8]) ∧
    exec i s = .next
      { cpu := { s.cpu with
          fZ := decide (s.cpu.a = v.1)
          fN := true
          fH := decide (s.cpu.a.toNat % 16 < v.1.toNat % 16)
          fC := decide (s.cpu.a.toNat < v.1.toNat) }
        bus := v.2.1
        cost := v.2.2 }

/-- O43, INC and DEC of a register or (HL). The value changes by one modulo 256; fZ the result is zero, fN clear for INC
and set for DEC, fH the old low nibble is 15 (INC) or 0 (DEC), fC unchanged; for (HL) one read then one write at HL,
the flags from the value read; nothing else changes. (stated, R179, R180, R181, R182.) -/
def Obligations.IncrementAndDecrement8 : Prop :=
  (∀ (i : Instr) (r : Reg8) (s : State), i.form = .inc8 (.reg r) →
    let v := s.cpu.reg r
    encode i = [0b00#2 ++ r.code ++ 0b100#3] ∧
    exec i s = .next { s with
      cpu := { s.cpu.setReg r (v + 1) with
        fZ := decide (v.toNat = 255), fN := false, fH := decide (v.toNat % 16 = 15) }
      cost := 4 }) ∧
  (∀ (i : Instr) (s : State), i.form = .inc8 .memHl →
    let v := s.bus.read s.cpu.hl
    encode i = [0x34] ∧
    exec i s = .next
      { cpu := { s.cpu with fZ := decide (v.1.toNat = 255), fN := false, fH := decide (v.1.toNat % 16 = 15) }
        bus := v.2.write s.cpu.hl (v.1 + 1)
        cost := 12 }) ∧
  (∀ (i : Instr) (r : Reg8) (s : State), i.form = .dec8 (.reg r) →
    let v := s.cpu.reg r
    encode i = [0b00#2 ++ r.code ++ 0b101#3] ∧
    exec i s = .next { s with
      cpu := { s.cpu.setReg r (v - 1) with
        fZ := decide (v.toNat = 1), fN := true, fH := decide (v.toNat % 16 = 0) }
      cost := 4 }) ∧
  ∀ (i : Instr) (s : State), i.form = .dec8 .memHl →
    let v := s.bus.read s.cpu.hl
    encode i = [0x35] ∧
    exec i s = .next
      { cpu := { s.cpu with fZ := decide (v.1.toNat = 1), fN := true, fH := decide (v.1.toNat % 16 = 0) }
        bus := v.2.write s.cpu.hl (v.1 - 1)
        cost := 12 }

/-- O44, DAA. After an addition 6 is added if fH or the low nibble exceeds 9, 0x60 if fC or A exceeds 0x99, and fC is
set in the second case; after a subtraction 6 is subtracted if fH, 0x60 if fC, and fC is kept; fZ the result is
zero, fH clear, fN unchanged; nothing else changes. (stated, R185.) -/
def Obligations.DecimalCorrection : Prop :=
  ∀ (i : Instr) (s : State), i.form = .daa →
    let a := s.cpu.a.toNat
    let high := s.cpu.fC = true ∨ (s.cpu.fN = false ∧ a > 0x99)
    let low := s.cpu.fH = true ∨ (s.cpu.fN = false ∧ a % 16 > 9)
    let adj := (if low then 0x06 else 0) + (if high then 0x60 else 0)
    let r := if s.cpu.fN = true then (a + 256 - adj) % 256 else (a + adj) % 256
    encode i = [0x27] ∧
    exec i s = .next { s with
      cpu := { s.cpu with a := BitVec.ofNat 8 r, fZ := decide (r = 0), fH := false, fC := decide high }
      cost := 4 }

/-- O45, CPL, SCF and CCF. CPL complements every bit of A and sets fN and fH; SCF sets the carry, CCF complements it,
both clear fN and fH; nothing else changes. (stated, R186, R187, R188.) -/
def Obligations.ComplementAndCarryFlag : Prop :=
  (∀ (i : Instr) (s : State), i.form = .cpl →
    encode i = [0x2F] ∧
    exec i s = .next { s with
      cpu := { s.cpu with a := BitVec.ofNat 8 (255 - s.cpu.a.toNat), fN := true, fH := true }, cost := 4 }) ∧
  (∀ (i : Instr) (s : State), i.form = .scf →
    encode i = [0x37] ∧
    exec i s = .next { s with cpu := { s.cpu with fN := false, fH := false, fC := true }, cost := 4 }) ∧
  ∀ (i : Instr) (s : State), i.form = .ccf →
    encode i = [0x3F] ∧
    exec i s = .next { s with cpu := { s.cpu with fN := false, fH := false, fC := !s.cpu.fC }, cost := 4 }

/-- O46, ADD HL,rr, INC rr, DEC rr and ADD SP,r8. HL becomes the sum modulo 65536 with fN clear, fH the carry out of the
masked low bits (mask HC16_MASK, a parameter, default 0x00FF by the spec's decision D3; log entry 5), fC the carry
out of bit 15, fZ unchanged; INC and DEC of a pair write no flag; SP becomes SP plus the signed byte with the flags
of adding the unsigned byte to its low byte (the spec's decision D20; log entry 23). (derived, R190, R191, R192,
R193.) -/
def Obligations.Arithmetic16 : Prop :=
  (∀ (i : Instr) (rr : Pair) (s : State), i.form = .addHl rr →
    let v := s.cpu.pair rr
    let mask := s.bus.params.hc16Mask
    let sum := s.cpu.hl.toNat + v.toNat
    encode i = [0b00#2 ++ rr.code ++ 0b1001#4] ∧
    exec i s = .next { s with
      cpu := { s.cpu with
        h := BitVec.ofNat 8 (sum / 256), l := BitVec.ofNat 8 sum, fN := false
        fH := decide ((s.cpu.hl &&& mask).toNat + (v &&& mask).toNat > mask.toNat), fC := decide (sum > 0xFFFF) }
      cost := 8 }) ∧
  (∀ (i : Instr) (rr : Pair) (s : State), i.form = .inc16 rr →
    encode i = [0b00#2 ++ rr.code ++ 0b0011#4] ∧
    exec i s = .next { s with cpu := s.cpu.setPair rr (BitVec.ofNat 16 ((s.cpu.pair rr).toNat + 1)), cost := 8 }) ∧
  (∀ (i : Instr) (rr : Pair) (s : State), i.form = .dec16 rr →
    encode i = [0b00#2 ++ rr.code ++ 0b1011#4] ∧
    exec i s = .next { s with
      cpu := s.cpu.setPair rr (BitVec.ofNat 16 ((s.cpu.pair rr).toNat + 0xFFFF)), cost := 8 }) ∧
  ∀ (i : Instr) (r8 : Byte) (s : State), i.form = .addSp r8 →
    ∃ sp : Word, sp.toInt = (s.cpu.sp.toInt + r8.toInt).bmod 65536 ∧
      encode i = [0xE8, r8] ∧
      exec i s = .next { s with
        cpu := { s.cpu with
          sp := sp, fZ := false, fN := false
          fH := decide (s.cpu.sp.toNat % 16 + r8.toNat % 16 > 0xF)
          fC := decide (s.cpu.sp.toNat % 256 + r8.toNat > 0xFF) }
        cost := 16 }

/-- O47, RLCA, RRCA, RLA and RRA. A becomes the rotated value, circular or through the carry; fC is the bit rotated out;
fZ, fN and fH are cleared, fZ even for a zero result; nothing else changes. (stated, R200, R201, R202, R203.) -/
def Obligations.RotatesOfA : Prop :=
  ∀ (i : Instr) (op : RotOp) (s : State), i.form = .rotA op →
    let op' : ShiftOp := match op with
      | .rlc => .rlc
      | .rrc => .rrc
      | .rl => .rl
      | .rr => .rr
    encode i = [match op with
      | .rlc => 0x07
      | .rrc => 0x0F
      | .rl => 0x17
      | .rr => 0x1F] ∧
    exec i s = .next { s with
      cpu := { s.cpu with
        a := BitVec.ofNat 8 (shiftNumber op' s.cpu.a.toNat s.cpu.fC)
        fZ := false, fN := false, fH := false
        fC := shiftCarryOut op' s.cpu.a.toNat }
      cost := 4 }

/-- O48, RLC, RRC, RL, RR, SLA, SRA, SWAP and SRL of a register. The register becomes the rotated, shifted or swapped
value; fZ the result is zero, fN and fH clear, fC the bit shifted out (clear for SWAP); nothing else changes.
(stated, R204, R206, R208, R210, R212, R214, R216, R218.) -/
def Obligations.ShiftsOfARegister : Prop :=
  ∀ (i : Instr) (op : ShiftOp) (r : Reg8) (s : State), i.form = .shift op (.reg r) →
    let v := (s.cpu.reg r).toNat
    let res := shiftNumber op v s.cpu.fC
    encode i = [0xCB, 0b00#2 ++ op.code ++ r.code] ∧ res < 256 ∧
    exec i s = .next { s with
      cpu := { s.cpu.setReg r (BitVec.ofNat 8 res) with
        fZ := decide (res = 0), fN := false, fH := false, fC := shiftCarryOut op v }
      cost := 8 }

/-- O49, RLC, RRC, RL, RR, SLA, SRA, SWAP and SRL of (HL). The byte at HL is read through the bus, and the result
written back through it at the same address; the flags come from the value read; nothing else changes. (stated,
R205, R207, R209, R211, R213, R215, R217, R219.) -/
def Obligations.ShiftsOfMemory : Prop :=
  ∀ (i : Instr) (op : ShiftOp) (s : State), i.form = .shift op .memHl →
    let v := s.bus.read s.cpu.hl
    let res := shiftNumber op v.1.toNat s.cpu.fC
    encode i = [0xCB, 0b00#2 ++ op.code ++ 0b110#3] ∧ res < 256 ∧
    exec i s = .next
      { cpu := { s.cpu with fZ := decide (res = 0), fN := false, fH := false, fC := shiftCarryOut op v.1.toNat }
        bus := v.2.write s.cpu.hl (BitVec.ofNat 8 res)
        cost := 16 }

/-- O50, BIT, RES and SET of a register or (HL). BIT makes fZ the complement of bit b of the operand, clears fN, sets
fH, leaves fC, and its (HL) form writes nothing; RES and SET make bit b of the operand 0 or 1 and keep the other
bits and every flag, their (HL) forms reading then writing at HL through the bus, also when the value is unchanged;
nothing else changes. (stated, R220, R221, R222, R223, R224, R225.) -/
def Obligations.BitTestsResetsAndSets : Prop :=
  (∀ (i : Instr) (b : BitVec 3) (r : Reg8) (s : State), i.form = .bit b (.reg r) →
    encode i = [0xCB, 0b01#2 ++ b ++ r.code] ∧
    exec i s = .next { s with
      cpu := { s.cpu with fZ := decide ((s.cpu.reg r).toNat / 2 ^ b.toNat % 2 = 0), fN := false, fH := true }
      cost := 8 }) ∧
  (∀ (i : Instr) (b : BitVec 3) (s : State), i.form = .bit b .memHl →
    let v := s.bus.read s.cpu.hl
    encode i = [0xCB, 0b01#2 ++ b ++ 0b110#3] ∧
    exec i s = .next
      { cpu := { s.cpu with fZ := decide (v.1.toNat / 2 ^ b.toNat % 2 = 0), fN := false, fH := true }
        bus := v.2
        cost := 12 }) ∧
  (∀ (i : Instr) (b : BitVec 3) (r : Reg8) (s : State), i.form = .res b (.reg r) →
    ∃ w, HasBit (s.cpu.reg r) w b false ∧ encode i = [0xCB, 0b10#2 ++ b ++ r.code] ∧
      exec i s = .next { s with cpu := s.cpu.setReg r w, cost := 8 }) ∧
  (∀ (i : Instr) (b : BitVec 3) (s : State), i.form = .res b .memHl →
    ∃ w, HasBit (s.bus.read s.cpu.hl).1 w b false ∧ encode i = [0xCB, 0b10#2 ++ b ++ 0b110#3] ∧
      exec i s = .next { s with bus := (s.bus.read s.cpu.hl).2.write s.cpu.hl w, cost := 16 }) ∧
  (∀ (i : Instr) (b : BitVec 3) (r : Reg8) (s : State), i.form = .set b (.reg r) →
    ∃ w, HasBit (s.cpu.reg r) w b true ∧ encode i = [0xCB, 0b11#2 ++ b ++ r.code] ∧
      exec i s = .next { s with cpu := s.cpu.setReg r w, cost := 8 }) ∧
  ∀ (i : Instr) (b : BitVec 3) (s : State), i.form = .set b .memHl →
    ∃ w, HasBit (s.bus.read s.cpu.hl).1 w b true ∧ encode i = [0xCB, 0b11#2 ++ b ++ 0b110#3] ∧
      exec i s = .next { s with bus := (s.bus.read s.cpu.hl).2.write s.cpu.hl w, cost := 16 }

/-- O51, JP and JR, unconditional and conditional, and JP HL. PC becomes the target: the absolute address, PC after the
instruction plus the signed byte, or HL; a conditional jump whose condition is false leaves PC after the instruction
and costs four cycles less; nothing else changes. (stated, R230, R231, R232, R233, R234, R240.) -/
def Obligations.Jumps : Prop :=
  (∀ (i : Instr) (a16 : Word) (s : State), i.form = .jp a16 →
    encode i = [0xC3, a16.extractLsb' 0 8, a16.extractLsb' 8 8] ∧
    exec i s = .next { s with cpu := { s.cpu with pc := a16 }, cost := 16 }) ∧
  (∀ (i : Instr) (cc : Cond) (a16 : Word) (s : State), i.form = .jpCc cc a16 →
    let taken := cc.Holds s.cpu
    encode i = [0b110#3 ++ cc.code ++ 0b010#3, a16.extractLsb' 0 8, a16.extractLsb' 8 8] ∧
    (taken → exec i s = .next { s with cpu := { s.cpu with pc := a16 }, cost := 16 }) ∧
    (¬taken → exec i s = .next { s with cost := 12 })) ∧
  (∀ (i : Instr) (r8 : Byte) (s : State), i.form = .jr r8 →
    ∃ pc : Word, pc.toInt = (s.cpu.pc.toInt + r8.toInt).bmod 65536 ∧ encode i = [0x18, r8] ∧
      exec i s = .next { s with cpu := { s.cpu with pc := pc }, cost := 12 }) ∧
  (∀ (i : Instr) (cc : Cond) (r8 : Byte) (s : State), i.form = .jrCc cc r8 →
    let taken := cc.Holds s.cpu
    ∃ pc : Word, pc.toInt = (s.cpu.pc.toInt + r8.toInt).bmod 65536 ∧
      encode i = [0b001#3 ++ cc.code ++ 0b000#3, r8] ∧
      (taken → exec i s = .next { s with cpu := { s.cpu with pc := pc }, cost := 12 }) ∧
      (¬taken → exec i s = .next { s with cost := 8 })) ∧
  ∀ (i : Instr) (s : State), i.form = .jpHl →
    encode i = [0xE9] ∧ exec i s = .next { s with cpu := { s.cpu with pc := s.cpu.h ++ s.cpu.l }, cost := 4 }

/-- O52, CALL, CALL cc and RST. The address after the instruction is pushed, high byte first at SP-1, low byte at SP-2,
through the bus, and PC becomes the target, 8t for RST t; a conditional call whose condition is false only costs 12
cycles; nothing else changes. (stated, R235, R236, R241.) -/
def Obligations.CallsAndRestarts : Prop :=
  (∀ (i : Instr) (a16 : Word) (s : State), i.form = .call a16 →
    encode i = [0xCD, a16.extractLsb' 0 8, a16.extractLsb' 8 8] ∧
    exec i s = .next
      { cpu := { s.cpu with sp := s.cpu.sp - 2, pc := a16 }
        bus := (s.bus.write (s.cpu.sp - 1) (s.cpu.pc.extractLsb' 8 8)).write (s.cpu.sp - 2) (s.cpu.pc.extractLsb' 0 8)
        cost := 24 }) ∧
  (∀ (i : Instr) (cc : Cond) (a16 : Word) (s : State), i.form = .callCc cc a16 →
    let taken := cc.Holds s.cpu
    encode i = [0b110#3 ++ cc.code ++ 0b100#3, a16.extractLsb' 0 8, a16.extractLsb' 8 8] ∧
    (taken → exec i s = .next
      { cpu := { s.cpu with sp := s.cpu.sp - 2, pc := a16 }
        bus := (s.bus.write (s.cpu.sp - 1) (s.cpu.pc.extractLsb' 8 8)).write (s.cpu.sp - 2) (s.cpu.pc.extractLsb' 0 8)
        cost := 24 }) ∧
    (¬taken → exec i s = .next { s with cost := 12 })) ∧
  ∀ (i : Instr) (t : BitVec 3) (s : State), i.form = .rst t →
    encode i = [0b11#2 ++ t ++ 0b111#3] ∧
    exec i s = .next
      { cpu := { s.cpu with sp := s.cpu.sp - 2, pc := BitVec.ofNat 16 (8 * t.toNat) }
        bus := (s.bus.write (s.cpu.sp - 1) (s.cpu.pc.extractLsb' 8 8)).write (s.cpu.sp - 2) (s.cpu.pc.extractLsb' 0 8)
        cost := 16 }

/-- O53, RET, RET cc and RETI. PC is popped, low byte at SP, high byte at SP+1, through the bus; RETI also sets IME at
once and leaves no enable pending; a conditional return whose condition is false reads no memory and costs 8 cycles;
nothing else changes. It rests on the spec's own decision: D16 (RETI enables at once). (derived, R237, R238, R239.) -/
def Obligations.Returns : Prop :=
  (∀ (i : Instr) (s : State), i.form = .ret →
    let lo := s.bus.read s.cpu.sp
    let hi := lo.2.read (s.cpu.sp + 1)
    encode i = [0xC9] ∧
    exec i s = .next { cpu := { s.cpu with sp := s.cpu.sp + 2, pc := hi.1 ++ lo.1 }, bus := hi.2, cost := 16 }) ∧
  (∀ (i : Instr) (cc : Cond) (s : State), i.form = .retCc cc →
    let taken := cc.Holds s.cpu
    let lo := s.bus.read s.cpu.sp
    let hi := lo.2.read (s.cpu.sp + 1)
    encode i = [0b110#3 ++ cc.code ++ 0b000#3] ∧
    (taken → exec i s = .next { cpu := { s.cpu with sp := s.cpu.sp + 2, pc := hi.1 ++ lo.1 }, bus := hi.2, cost := 20 }) ∧
    (¬taken → exec i s = .next { s with cost := 8 })) ∧
  ∀ (i : Instr) (s : State), i.form = .reti →
    let lo := s.bus.read s.cpu.sp
    let hi := lo.2.read (s.cpu.sp + 1)
    encode i = [0xD9] ∧
    exec i s = .next
      { cpu := { s.cpu with sp := s.cpu.sp + 2, pc := hi.1 ++ lo.1, ime := true, eiDelay := false }
        bus := hi.2
        cost := 16 }

/-- O54, NOP, HALT, STOP, DI and EI. NOP changes nothing; HALT makes the machine halted and does nothing else; STOP has
no effect besides its two bytes and its cost (the spec's own decision D15; log entry 12); DI clears IME and any
pending enable at once; EI sets the pending enable if IME is false and changes nothing else; each costs 4. (derived,
R250, R251, R252, R253, R254.) -/
def Obligations.NopHaltStopDisableEnable : Prop :=
  (∀ (i : Instr) (s : State), i.form = .nop → encode i = [0x00] ∧ exec i s = .next { s with cost := 4 }) ∧
  (∀ (i : Instr) (s : State), i.form = .halt →
    encode i = [0x76] ∧ exec i s = .next { s with cpu := { s.cpu with run := .halted }, cost := 4 }) ∧
  (∀ (i : Instr) (d8 : Byte) (s : State), i.form = .stop d8 →
    encode i = [0x10, d8] ∧ exec i s = .next { s with cost := 4 }) ∧
  (∀ (i : Instr) (s : State), i.form = .di →
    encode i = [0xF3] ∧
    exec i s = .next { s with cpu := { s.cpu with ime := false, eiDelay := false }, cost := 4 }) ∧
  ∀ (i : Instr) (s : State), i.form = .ei →
    encode i = [0xFB] ∧
    (s.cpu.ime = false → exec i s = .next { s with cpu := { s.cpu with eiDelay := true }, cost := 4 }) ∧
    (s.cpu.ime = true → exec i s = .next { s with cost := 4 })

/-- O55, Which flags an instruction may write, and which constants it writes. For every instruction but the bare escape
row (which is one of the secondary instructions): a next state has each flag unchanged, at the constant, or
computed, as the row of the table of rule R16 says. It rests on the spec's own decision: D19. (derived, R12, R16,
R122.) -/
def Obligations.FlagFrame : Prop :=
  ∀ (i : Instr) (s t : State), i ≠ .prefixCb → exec i s = .next t →
    i.form.flagRow.z.allows s.cpu.fZ t.cpu.fZ ∧ i.form.flagRow.n.allows s.cpu.fN t.cpu.fN ∧
    i.form.flagRow.h.allows s.cpu.fH t.cpu.fH ∧ i.form.flagRow.c.allows s.cpu.fC t.cpu.fC

/-- O56, What an instruction leaves unchanged in the register file. For every instruction but the bare escape row (which
is one of the secondary instructions): a next state has every 8-bit register unchanged but those its rule writes, SP
unchanged but for the instructions that write it, PC unchanged but for control transfers (it already stands after
the instruction), IME unchanged but for DI and RETI, the pending enable but for DI, EI and RETI, and the run state
but for HALT. (derived, R10, R14, R15, R17, R18, R19, R122.) -/
def Obligations.RegisterFrame : Prop :=
  ∀ (i : Instr) (s t : State), i ≠ .prefixCb → exec i s = .next t →
    (∀ r, r ∉ i.form.registers → t.cpu.reg r = s.cpu.reg r) ∧
    (i.form.writesSp = false → t.cpu.sp = s.cpu.sp) ∧
    (i.form.transfers = false → t.cpu.pc = s.cpu.pc) ∧
    (i.form ≠ .di ∧ i.form ≠ .reti → t.cpu.ime = s.cpu.ime) ∧
    (i.form ≠ .di ∧ i.form ≠ .reti ∧ i.form ≠ .ei → t.cpu.eiDelay = s.cpu.eiDelay) ∧
    (i.form ≠ .halt → t.cpu.run = s.cpu.run)

/-- O57, What an instruction leaves unchanged in memory. For every instruction but the bare escape row (which is one of
the secondary instructions), in a state where no handler claims an address it accesses: every address reads after as
it read before, except those its stores can reach (for each store address its own storage, its aliases, and the
windows a bank-control or boot-mode write serves); an instruction that stores nothing leaves the whole address space
as it was. (derived, R41, R42, R82, R85.) -/
def Obligations.MemoryFrame : Prop :=
  ∀ (i : Instr) (s t : State), i ≠ .prefixCb →
    (∀ a, a ∈ i.form.loads s.cpu ++ i.form.stores s.cpu → s.bus.forwardsTo a = none) → exec i s = .next t →
    (∀ x, (∀ a, a ∈ i.form.stores s.cpu → s.bus.aliases a x = false) → t.bus.rawRead x = s.bus.rawRead x) ∧
    (i.form.stores s.cpu = [] → t.bus = s.bus)

/-- O58, The machine after reset and after the no-boot initializer. Reset of any session: registers, flags, SP, PC, IME
and the pending enable zero or false (the zeros are the spec's own decision D5; log entry 2), running, every buffer
reading 0x00, boot latch set, gates open and guard idle (decision D7; log entry 3), ROM bank 1, RAM bank 0, RAM
disabled, mode 0; external RAM, handler table, serial log and parameters kept; State.reset is such a state. The no-
boot initializer is reset, then AF 0x01B0, BC 0x0013, DE 0x00D8, HL 0x014D, SP 0xFFFE, PC 0x0100 (decision D6) and
the boot latch clear. (derived, R31, R32, R290, R292.) -/
def Obligations.ResetAndNoBoot : Prop :=
  (∀ s : State,
    let t := s.resetSession
    (∀ r, t.cpu.reg r = 0) ∧ t.cpu.f = 0 ∧ t.cpu.sp = 0 ∧ t.cpu.pc = 0 ∧ t.cpu.ime = false ∧ t.cpu.eiDelay = false ∧
    t.cpu.run = .running ∧
    (∀ i, readCell t.bus.wram i = 0 ∧ readCell t.bus.vram i = 0 ∧ readCell t.bus.oam i = 0 ∧
      readCell t.bus.io i = 0 ∧ readCell t.bus.hram i = 0) ∧
    t.bus.booting = true ∧ t.bus.vramGate = true ∧ t.bus.oamGate = true ∧ t.bus.guard = .idle ∧
    t.bus.mbc.romBank = 1 ∧ t.bus.mbc.ramBank = 0 ∧ t.bus.mbc.ramEnable = false ∧ t.bus.mbc.bankMode = 0 ∧
    t.bus.mbc.eram = s.bus.mbc.eram ∧ t.bus.handlerAt = s.bus.handlerAt ∧ t.bus.serialLog = s.bus.serialLog ∧
    t.bus.params = s.bus.params) ∧
  State.reset.resetSession = State.reset ∧
  ∀ s : State,
    let t := s.noBoot
    t.cpu.af = 0x01B0 ∧ t.cpu.bc = 0x0013 ∧ t.cpu.de = 0x00D8 ∧ t.cpu.hl = 0x014D ∧ t.cpu.sp = 0xFFFE ∧
    t.cpu.pc = 0x0100 ∧ t.cpu.ime = false ∧ t.cpu.eiDelay = false ∧ t.cpu.run = .running ∧
    t.bus = { s.resetSession.bus with booting := false }

/-- O59, The controller a cartridge type selects, or the construction error. Type 0x00 selects no controller, 0x01 to
0x03 the banked scheme; construction succeeds exactly for those and gives a session with that controller and those
parameters (with the banked scheme, external RAM byte k being byte k of the persisted image, 0x00 where there is
none); for every other type construction fails with the configuration error that names the type, and there is no
machine. It rests on the spec's own decision: D9. (derived, R70.) -/
def Obligations.ControllerSelection : Prop :=
  ∀ (p : Params) (image : Option (Vector Byte p.eramSize)),
    (p.cartType = 0x00 → ∃ s, State.construct p image = .ok s ∧ s.bus.mbc.kind = .none ∧ s.bus.params = p) ∧
    (1 ≤ p.cartType.toNat ∧ p.cartType.toNat ≤ 3 →
      ∃ s, State.construct p image = .ok s ∧ s.bus.mbc.kind = .mbc1 ∧ s.bus.params = p ∧
        ∀ k, readCell s.bus.mbc.eram k = imageByte image k) ∧
    (3 < p.cartType.toNat → State.construct p image = .error (.unrecognizedController p.cartType)) ∧
    ∀ s : State, selects s.bus.params.cartType s.bus.mbc.kind = true → s.resetSession.bus.mbc.kind = s.bus.mbc.kind

/-- O60, The persisted external-RAM image: loaded at construction, kept by reset, flushed whole. A constructed session
has its parameters, no handler, an empty serial log, and as external RAM byte k the byte k of the image, or 0x00
where there is no image or k is past its ERAM_SIZE bytes (no image of another length exists, U11 of
93_implementation_defined.md); either entry point keeps the external RAM and leaves a state that meets the
invariant. The image flushed has byte k of the external RAM at index k, and from every state that meets the
invariant a session constructed from the flushed image has that external RAM again. (derived, R4, R84, R290, R291,
R292.) -/
def Obligations.PersistedImage : Prop :=
  (∀ (p : Params) (image : Option (Vector Byte p.eramSize)) (s : State), State.construct p image = .ok s →
    s.bus.params = p ∧ s.bus.handlerAt = [] ∧ s.bus.serialLog = [] ∧
    (∀ k, readCell s.bus.mbc.eram k = imageByte image k) ∧
    s.resetSession.bus.mbc.eram = s.bus.mbc.eram ∧ s.resetSession.Inv ∧
    s.noBoot.bus.mbc.eram = s.bus.mbc.eram ∧ s.noBoot.Inv) ∧
  (∀ (s : State) (k : Nat) (h : k < s.bus.params.eramSize), s.eramImage[k] = readCell s.bus.mbc.eram k) ∧
  ∀ s : State, s.Inv →
    ∃ u, State.construct s.bus.params (some s.eramImage) = .ok u ∧ u.bus.mbc.eram = s.bus.mbc.eram
end

