-- ==== Sys2Proof/Laws/Memory.lean ====
section
/-! SUPPORT. What the operations on byte buffers do: a read after a write, and the canonical form every write keeps. -/

namespace Sys2Proof.Machine

@[simp] theorem readCell_nil (i : Nat) : readCell [] i = unlistedByte := rfl

theorem readCell_cons (k : Nat) (v : Byte) (m : Memory) (i : Nat) :
    readCell ((k, v) :: m) i = if k = i then v else readCell m i := rfl

theorem readCell_eraseCell (m : Memory) (i j : Nat) :
    readCell (eraseCell m i) j = if j = i then unlistedByte else readCell m j := by
  induction m with
  | nil => simp [eraseCell]
  | cons cell rest ih =>
    obtain ⟨k, v⟩ := cell
    unfold eraseCell at ih ⊢
    by_cases hk : k = i <;> by_cases hj : j = i <;> by_cases hkj : k = j <;>
      simp_all [readCell_cons]

theorem readCell_insertCell (m : Memory) (i j : Nat) (v : Byte) (h : ∀ cell ∈ m, cell.1 ≠ i) :
    readCell (insertCell i v m) j = if j = i then v else readCell m j := by
  induction m with
  | nil => simp [insertCell, readCell_cons, eq_comm]
  | cons cell rest ih =>
    obtain ⟨k, w⟩ := cell
    have hk : k ≠ i := h (k, w) (by simp)
    have ih := ih fun c hc => h c (by simp [hc])
    unfold insertCell
    split
    · simp [readCell_cons, eq_comm]
    · by_cases hj : j = i
      · subst hj; simp [readCell_cons, hk, ih]
      · simp [readCell_cons, ih, hj]

theorem eraseCell_ne (m : Memory) (i : Nat) : ∀ cell ∈ eraseCell m i, cell.1 ≠ i := by
  intro cell h
  simpa [eraseCell] using (List.mem_filter.mp h).2

/-- A read after a write: the byte written at its index, every other byte as before. -/
theorem readCell_writeCell (m : Memory) (i j : Nat) (v : Byte) :
    readCell (writeCell m i v) j = if j = i then v else readCell m j := by
  unfold writeCell
  split
  · next hv => rw [readCell_eraseCell, hv]
  · rw [readCell_insertCell _ _ _ _ (eraseCell_ne m i), readCell_eraseCell]
    split <;> rfl

@[simp] theorem readCell_writeCell_self (m : Memory) (i : Nat) (v : Byte) :
    readCell (writeCell m i v) i = v := by simp [readCell_writeCell]

theorem readCell_writeCell_ne (m : Memory) {i j : Nat} (v : Byte) (h : j ≠ i) :
    readCell (writeCell m i v) j = readCell m j := by simp [readCell_writeCell, h]

theorem mem_insertCell {m : Memory} {i : Nat} {v : Byte} {cell : Host.Cell} :
    cell ∈ insertCell i v m → cell = (i, v) ∨ cell ∈ m := by
  induction m with
  | nil => simp [insertCell]
  | cons c rest ih =>
    obtain ⟨k, w⟩ := c
    unfold insertCell
    split
    · simp
    · intro h
      rcases List.mem_cons.mp h with h | h
      · exact .inr (by simp [h])
      · exact (ih h).imp_right fun h => by simp [h]

theorem insertCell_pairwise {m : Memory} {i : Nat} {v : Byte} (hm : m.Pairwise (fun x y => x.1 < y.1))
    (h : ∀ cell ∈ m, cell.1 ≠ i) : (insertCell i v m).Pairwise (fun x y => x.1 < y.1) := by
  induction m with
  | nil => simp [insertCell]
  | cons c rest ih =>
    obtain ⟨k, w⟩ := c
    have hrest := List.pairwise_cons.mp hm
    have hk : k ≠ i := h (k, w) (by simp)
    unfold insertCell
    split
    · next hik =>
      refine List.pairwise_cons.mpr ⟨fun c hc => ?_, hm⟩
      rcases List.mem_cons.mp hc with rfl | hc
      · exact hik
      · exact lt_trans hik (hrest.1 c hc)
    · next hik =>
      refine List.pairwise_cons.mpr ⟨fun c hc => ?_, ih hrest.2 fun c hc => h c (by simp [hc])⟩
      rcases mem_insertCell hc with rfl | hc
      · show k < i; omega
      · exact hrest.1 c hc

theorem eraseCell_wf {m : Memory} (hm : Memory.wf m) (i : Nat) : Memory.wf (eraseCell m i) :=
  ⟨hm.1.filter _, fun c hc => hm.2 c (List.mem_filter.mp hc).1⟩

/-- A write keeps the canonical form. -/
theorem writeCell_wf {m : Memory} (hm : Memory.wf m) (i : Nat) (v : Byte) : Memory.wf (writeCell m i v) := by
  unfold writeCell
  split
  · exact eraseCell_wf hm i
  · next hv =>
    have he := eraseCell_wf hm i
    refine ⟨insertCell_pairwise he.1 (eraseCell_ne m i), fun c hc => ?_⟩
    rcases mem_insertCell hc with rfl | hc
    · exact hv
    · exact he.2 c hc

/-- A write inside a buffer keeps its size. -/
theorem writeCell_within {m : Memory} {size : Nat} (hm : Memory.within m size) {i : Nat} (hi : i < size) (v : Byte) :
    Memory.within (writeCell m i v) size := by
  have he : Memory.within (eraseCell m i) size := fun c hc => hm c (List.mem_filter.mp hc).1
  unfold writeCell
  split
  · exact he
  · intro c hc
    rcases mem_insertCell hc with rfl | hc
    · exact hi
    · exact he c hc

/-- A write inside a buffer leaves a buffer of the same size in canonical form. -/
theorem writeCell_buffer {m : Memory} {size : Nat} (hm : Memory.buffer m size) {i : Nat} (hi : i < size) (v : Byte) :
    Memory.buffer (writeCell m i v) size :=
  ⟨writeCell_wf hm.1 i v, writeCell_within hm.2 hi v⟩

/-! ### Buffers and byte arrays -/

/-- A buffer made from a byte list lists only indices of the list. -/
theorem mem_cellsFrom {i : Nat} {bs : List Byte} {cell : Host.Cell} (h : cell ∈ cellsFrom i bs) :
    i ≤ cell.1 ∧ cell.1 < i + bs.length ∧ cell.2 ≠ unlistedByte := by
  induction bs generalizing i with
  | nil => simp [cellsFrom] at h
  | cons v rest ih =>
    simp only [List.length_cons]
    unfold cellsFrom at h
    split at h
    · obtain ⟨h1, h2, h3⟩ := ih h
      exact ⟨by omega, by omega, h3⟩
    · next hv =>
      rcases List.mem_cons.mp h with rfl | h
      · exact ⟨Nat.le_refl _, by simp, hv⟩
      · obtain ⟨h1, h2, h3⟩ := ih h
        exact ⟨by omega, by omega, h3⟩

theorem cellsFrom_pairwise (i : Nat) (bs : List Byte) : (cellsFrom i bs).Pairwise fun x y => x.1 < y.1 := by
  induction bs generalizing i with
  | nil => exact .nil
  | cons v rest ih =>
    unfold cellsFrom
    split
    · exact ih _
    · exact List.pairwise_cons.mpr ⟨fun c hc => (mem_cellsFrom hc).1, ih _⟩

/-- The buffer of a byte list is in canonical form and has the list's size. -/
theorem cellsFrom_buffer (bs : List Byte) : Memory.buffer (cellsFrom 0 bs) bs.length :=
  ⟨⟨cellsFrom_pairwise 0 bs, fun _ hc => (mem_cellsFrom hc).2.2⟩, fun _ hc => by
    have := (mem_cellsFrom hc).2.1
    omega⟩

/-- An index no cell has reads as unlisted. -/
theorem readCell_of_absent {m : Memory} {i : Nat} (h : ∀ cell ∈ m, cell.1 ≠ i) : readCell m i = unlistedByte := by
  induction m with
  | nil => rfl
  | cons c rest ih =>
    rw [show c = (c.1, c.2) from rfl, readCell_cons, if_neg (h c (by simp))]
    exact ih fun c hc => h c (by simp [hc])

/-- Byte `k` of the list is byte `i + k` of its buffer; past the list the buffer reads as unlisted. -/
theorem readCell_cellsFrom (i : Nat) (bs : List Byte) (k : Nat) :
    readCell (cellsFrom i bs) (i + k) = bs.getD k unlistedByte := by
  induction bs generalizing i k with
  | nil => simp [cellsFrom]
  | cons v rest ih =>
    have later (k : Nat) : readCell (cellsFrom (i + 1) rest) (i + (k + 1)) = rest.getD k unlistedByte := by
      rw [← ih (i + 1) k]
      congr 1
      omega
    have first : readCell (cellsFrom (i + 1) rest) i = unlistedByte :=
      readCell_of_absent fun _ hc => by
        have := (mem_cellsFrom hc).1
        omega
    unfold cellsFrom
    cases k with
    | zero =>
      split
      · next hv => simpa [hv] using first
      · simp [readCell_cons]
    | succ k =>
      split
      · simpa using later k
      · rw [readCell_cons, if_neg (by omega)]
        simpa using later k

/-- A byte of the array is the byte of the buffer. -/
theorem bufferBytes_getD {m : Memory} {size k : Nat} (h : k < size) :
    (bufferBytes m size).toList.getD k unlistedByte = readCell m k := by
  simp [bufferBytes, h]

/-- Equal bytes everywhere make equal buffers: the canonical form is canonical. -/
theorem eq_of_readCell_eq {m m' : Memory} (hm : Memory.wf m) (hm' : Memory.wf m')
    (h : ∀ i, readCell m i = readCell m' i) : m = m' := by
  have low (m : Memory) (i : Nat) (h : ∀ c ∈ m, i < c.1) : readCell m i = unlistedByte := by
    induction m with
    | nil => rfl
    | cons c rest ih =>
      have := h c (by simp)
      rw [show c = (c.1, c.2) from rfl, readCell_cons, if_neg (by omega)]
      exact ih fun c hc => h c (by simp [hc])
  induction m generalizing m' with
  | nil =>
    cases m' with
    | nil => rfl
    | cons c rest =>
      have := h c.1
      rw [show c = (c.1, c.2) from rfl, readCell_cons, if_pos rfl] at this
      exact absurd this.symm (hm'.2 c (by simp))
  | cons c rest ih =>
    have hc := List.pairwise_cons.mp hm.1
    cases m' with
    | nil =>
      have := h c.1
      rw [show c = (c.1, c.2) from rfl, readCell_cons, if_pos rfl] at this
      exact absurd this (hm.2 c (by simp))
    | cons c' rest' =>
      have hc' := List.pairwise_cons.mp hm'.1
      obtain ⟨k, v⟩ := c
      obtain ⟨k', v'⟩ := c'
      have hkk : k = k' := by
        rcases lt_trichotomy k k' with hlt | heq | hgt
        · have := h k
          rw [readCell_cons, if_pos rfl, low ((k', v') :: rest') k] at this
          · exact absurd this (hm.2 (k, v) (by simp))
          · intro c hc
            rcases List.mem_cons.mp hc with rfl | hc
            · exact hlt
            · exact lt_trans hlt (hc'.1 c hc)
        · exact heq
        · have := h k'
          rw [readCell_cons (k := k'), if_pos rfl, low ((k, v) :: rest) k'] at this
          · exact absurd this.symm (hm'.2 (k', v') (by simp))
          · intro c hc0
            rcases List.mem_cons.mp hc0 with rfl | hc0
            · exact hgt
            · exact lt_trans hgt (hc.1 c hc0)
      subst hkk
      have hvv : v = v' := by simpa [readCell_cons] using h k
      subst hvv
      congr 1
      refine ih ⟨hc.2, fun c hc => hm.2 c (by simp [hc])⟩ ⟨hc'.2, fun c hc => hm'.2 c (by simp [hc])⟩ fun i => ?_
      by_cases hi : k = i
      · subst hi
        rw [low rest k hc.1, low rest' k hc'.1]
      · simpa [readCell_cons, hi] using h i

end Sys2Proof.Machine
end

