-- ==== Sys2Proof/Laws/State.lean ====
section
/-! SUPPORT. The small lemmas of the state's updates: one per field per update, true by unfolding, so that no later proof
unfolds a record update. -/

namespace Sys2Proof.Machine

/-! ### The interpreter's bus accesses change only the bus -/

@[simp] theorem State.read_fst (s : State) (a : Word) : (s.read a).1 = (s.bus.read a).1 := rfl
@[simp] theorem State.read_cpu (s : State) (a : Word) : (s.read a).2.cpu = s.cpu := rfl
@[simp] theorem State.read_bus (s : State) (a : Word) : (s.read a).2.bus = (s.bus.read a).2 := rfl
@[simp] theorem State.read_cost (s : State) (a : Word) : (s.read a).2.cost = s.cost := rfl
@[simp] theorem State.write_cpu (s : State) (a : Word) (v : Byte) : (s.write a v).cpu = s.cpu := rfl
@[simp] theorem State.write_bus (s : State) (a : Word) (v : Byte) : (s.write a v).bus = s.bus.write a v := rfl
@[simp] theorem State.write_cost (s : State) (a : Word) (v : Byte) : (s.write a v).cost = s.cost := rfl

/-! ### Fetching -/

@[simp] theorem State.fetch8_fst (s : State) : s.fetch8.1 = (s.bus.read s.cpu.pc).1 := rfl
@[simp] theorem State.fetch8_cpu (s : State) : s.fetch8.2.cpu = { s.cpu with pc := s.cpu.pc + 1 } := rfl
@[simp] theorem State.fetch8_bus (s : State) : s.fetch8.2.bus = (s.bus.read s.cpu.pc).2 := rfl
@[simp] theorem State.fetch8_cost (s : State) : s.fetch8.2.cost = s.cost := rfl

/-! ### The stack -/

@[simp] theorem State.pushByte_cpu (s : State) (v : Byte) :
    (s.pushByte v).cpu = { s.cpu with sp := s.cpu.sp - 1 } := rfl
@[simp] theorem State.pushByte_bus (s : State) (v : Byte) :
    (s.pushByte v).bus = s.bus.write (s.cpu.sp - 1) v := rfl
@[simp] theorem State.pushByte_cost (s : State) (v : Byte) : (s.pushByte v).cost = s.cost := rfl
@[simp] theorem State.push16_cpu (s : State) (v : Word) :
    (s.push16 v).cpu = { s.cpu with sp := s.cpu.sp - 1 - 1 } := rfl
@[simp] theorem State.push16_bus (s : State) (v : Word) :
    (s.push16 v).bus = (s.bus.write (s.cpu.sp - 1) (highByte v)).write (s.cpu.sp - 1 - 1) (lowByte v) := rfl
@[simp] theorem State.push16_cost (s : State) (v : Word) : (s.push16 v).cost = s.cost := rfl
@[simp] theorem State.popByte_fst (s : State) : s.popByte.1 = (s.bus.read s.cpu.sp).1 := rfl
@[simp] theorem State.popByte_cpu (s : State) : s.popByte.2.cpu = { s.cpu with sp := s.cpu.sp + 1 } := rfl
@[simp] theorem State.popByte_bus (s : State) : s.popByte.2.bus = (s.bus.read s.cpu.sp).2 := rfl
@[simp] theorem State.popByte_cost (s : State) : s.popByte.2.cost = s.cost := rfl
@[simp] theorem State.pop16_fst (s : State) :
    s.pop16.1 = imm16 (s.bus.read s.cpu.sp).1 ((s.bus.read s.cpu.sp).2.read (s.cpu.sp + 1)).1 := rfl
@[simp] theorem State.pop16_cpu (s : State) : s.pop16.2.cpu = { s.cpu with sp := s.cpu.sp + 1 + 1 } := rfl
@[simp] theorem State.pop16_bus (s : State) :
    s.pop16.2.bus = ((s.bus.read s.cpu.sp).2.read (s.cpu.sp + 1)).2 := rfl
@[simp] theorem State.pop16_cost (s : State) : s.pop16.2.cost = s.cost := rfl

/-! ### Interrupts -/

@[simp] theorem State.interruptTest_cpu (s : State) : s.interruptTest.2.2.cpu = s.cpu := by
  simp only [State.interruptTest, State.read_cpu]
@[simp] theorem State.interruptTest_cost (s : State) : s.interruptTest.2.2.cost = s.cost := by
  simp only [State.interruptTest, State.read_cost]
@[simp] theorem State.takeInterrupt_cpu (s : State) (n : Nat) (f : Byte) :
    (s.takeInterrupt n f).cpu =
      { s.cpu with ime := false, sp := s.cpu.sp - 1 - 1, pc := interruptVector n } := rfl
@[simp] theorem State.takeInterrupt_bus (s : State) (n : Nat) (f : Byte) :
    (s.takeInterrupt n f).bus =
      ((s.bus.write addrInterruptFlag (acknowledge f n)).write (s.cpu.sp - 1) (highByte s.cpu.pc)).write
        (s.cpu.sp - 1 - 1) (lowByte s.cpu.pc) := rfl
@[simp] theorem State.takeInterrupt_cost (s : State) (n : Nat) (f : Byte) : (s.takeInterrupt n f).cost = 20 := rfl
@[simp] theorem State.returnFromInterrupt_cpu (s : State) :
    s.returnFromInterrupt.cpu = { s.pop16.2.cpu with pc := s.pop16.1, ime := true, eiDelay := false } := rfl
@[simp] theorem State.returnFromInterrupt_bus (s : State) : s.returnFromInterrupt.bus = s.pop16.2.bus := rfl
@[simp] theorem State.settleEnable_bus (s : State) (arm : Bool) : (s.settleEnable arm).bus = s.bus := by
  unfold State.settleEnable; split <;> rfl
@[simp] theorem State.settleEnable_cost (s : State) (arm : Bool) : (s.settleEnable arm).cost = s.cost := by
  unfold State.settleEnable; split <;> rfl

/-! ### Registers -/

theorem Cpu.reg_setReg (s : Cpu) (r q : Reg8) (v : Byte) :
    (s.setReg r v).reg q = if q = r then v else s.reg q := by
  cases r <;> cases q <;> rfl

@[simp] theorem Cpu.reg_setReg_self (s : Cpu) (r : Reg8) (v : Byte) : (s.setReg r v).reg r = v := by
  cases r <;> rfl

@[simp] theorem Cpu.setReg_reg (s : Cpu) (r : Reg8) : s.setReg r (s.reg r) = s := by cases r <;> rfl

@[simp] theorem Cpu.setReg_sp (s : Cpu) (r : Reg8) (v : Byte) : (s.setReg r v).sp = s.sp := by cases r <;> rfl
@[simp] theorem Cpu.setReg_pc (s : Cpu) (r : Reg8) (v : Byte) : (s.setReg r v).pc = s.pc := by cases r <;> rfl
@[simp] theorem Cpu.setReg_fZ (s : Cpu) (r : Reg8) (v : Byte) : (s.setReg r v).fZ = s.fZ := by cases r <;> rfl
@[simp] theorem Cpu.setReg_fN (s : Cpu) (r : Reg8) (v : Byte) : (s.setReg r v).fN = s.fN := by cases r <;> rfl
@[simp] theorem Cpu.setReg_fH (s : Cpu) (r : Reg8) (v : Byte) : (s.setReg r v).fH = s.fH := by cases r <;> rfl
@[simp] theorem Cpu.setReg_fC (s : Cpu) (r : Reg8) (v : Byte) : (s.setReg r v).fC = s.fC := by cases r <;> rfl
@[simp] theorem Cpu.setReg_ime (s : Cpu) (r : Reg8) (v : Byte) : (s.setReg r v).ime = s.ime := by cases r <;> rfl
@[simp] theorem Cpu.setReg_eiDelay (s : Cpu) (r : Reg8) (v : Byte) : (s.setReg r v).eiDelay = s.eiDelay := by
  cases r <;> rfl
@[simp] theorem Cpu.setReg_run (s : Cpu) (r : Reg8) (v : Byte) : (s.setReg r v).run = s.run := by cases r <;> rfl

@[simp] theorem Cpu.setPair_ime (s : Cpu) (rr : Pair) (v : Word) : (s.setPair rr v).ime = s.ime := by cases rr <;> rfl
@[simp] theorem Cpu.setPair_eiDelay (s : Cpu) (rr : Pair) (v : Word) : (s.setPair rr v).eiDelay = s.eiDelay := by
  cases rr <;> rfl
@[simp] theorem Cpu.setPair_run (s : Cpu) (rr : Pair) (v : Word) : (s.setPair rr v).run = s.run := by cases rr <;> rfl
@[simp] theorem Cpu.setPair_pc (s : Cpu) (rr : Pair) (v : Word) : (s.setPair rr v).pc = s.pc := by cases rr <;> rfl

@[simp] theorem Cpu.setStackPair_ime (s : Cpu) (qq : StackPair) (v : Word) : (s.setStackPair qq v).ime = s.ime := by
  cases qq <;> rfl
@[simp] theorem Cpu.setStackPair_eiDelay (s : Cpu) (qq : StackPair) (v : Word) :
    (s.setStackPair qq v).eiDelay = s.eiDelay := by cases qq <;> rfl
@[simp] theorem Cpu.setStackPair_run (s : Cpu) (qq : StackPair) (v : Word) : (s.setStackPair qq v).run = s.run := by
  cases qq <;> rfl
@[simp] theorem Cpu.setStackPair_sp (s : Cpu) (qq : StackPair) (v : Word) : (s.setStackPair qq v).sp = s.sp := by
  cases qq <;> rfl
@[simp] theorem Cpu.setStackPair_pc (s : Cpu) (qq : StackPair) (v : Word) : (s.setStackPair qq v).pc = s.pc := by
  cases qq <;> rfl

@[simp] theorem Cpu.ptrAfter_ime (s : Cpu) (p : Ptr) : (s.ptrAfter p).ime = s.ime := by cases p <;> rfl
@[simp] theorem Cpu.ptrAfter_eiDelay (s : Cpu) (p : Ptr) : (s.ptrAfter p).eiDelay = s.eiDelay := by cases p <;> rfl
@[simp] theorem Cpu.ptrAfter_run (s : Cpu) (p : Ptr) : (s.ptrAfter p).run = s.run := by cases p <;> rfl
@[simp] theorem Cpu.ptrAfter_pc (s : Cpu) (p : Ptr) : (s.ptrAfter p).pc = s.pc := by cases p <;> rfl
@[simp] theorem Cpu.ptrAfter_sp (s : Cpu) (p : Ptr) : (s.ptrAfter p).sp = s.sp := by cases p <;> rfl

@[simp] theorem Cpu.setFlags_ime (s : Cpu) (z n h c : Bool) : (s.setFlags z n h c).ime = s.ime := rfl
@[simp] theorem Cpu.setFlags_eiDelay (s : Cpu) (z n h c : Bool) : (s.setFlags z n h c).eiDelay = s.eiDelay := rfl
@[simp] theorem Cpu.setFlags_run (s : Cpu) (z n h c : Bool) : (s.setFlags z n h c).run = s.run := rfl
@[simp] theorem Cpu.setFlags_sp (s : Cpu) (z n h c : Bool) : (s.setFlags z n h c).sp = s.sp := rfl
@[simp] theorem Cpu.setFlags_pc (s : Cpu) (z n h c : Bool) : (s.setFlags z n h c).pc = s.pc := rfl

/-! ### Words -/

theorem getLsbD_pair (x y : Byte) (i : Nat) :
    BitVec.getLsbD (x ++ y : Word) i = if i < 8 then y.getLsbD i else x.getLsbD (i - 8) :=
  BitVec.getLsbD_append.trans (by split <;> simp_all)

@[simp] theorem highByte_append (x y : Byte) : highByte (x ++ y) = x := by
  ext i hi
  simp [highByte, BitVec.getElem_extractLsb', getLsbD_pair, BitVec.getLsbD_eq_getElem hi]

@[simp] theorem lowByte_append (x y : Byte) : lowByte (x ++ y) = y := by
  ext i hi
  simp [lowByte, BitVec.getElem_extractLsb', getLsbD_pair, hi]

@[simp] theorem highByte_append_lowByte (v : Word) : highByte v ++ lowByte v = v := by
  ext i hi
  simp only [highByte, lowByte, BitVec.getElem_append, BitVec.getElem_extractLsb']
  split
  · simp [BitVec.getElem_eq_testBit_toNat, BitVec.getLsbD]
  · next h =>
    have : 8 + (i - 8) = i := by omega
    simp [this, BitVec.getElem_eq_testBit_toNat, BitVec.getLsbD]

@[simp] theorem imm16_lowByte_highByte (v : Word) : imm16 (lowByte v) (highByte v) = v := by simp [imm16]

end Sys2Proof.Machine
end

