-- ==== Sys2Proof/Laws/Bus.lean ====
section
/-! SUPPORT. What the bus operations can do, said once: accesses with no handler, what every access keeps, and the
accesses a machine's bus is reached by. -/

namespace Sys2Proof.Machine

/-! ### Accesses that forward to no handler -/

theorem Bus.read_of_unclaimed {b : Bus} {a : Word} (h : b.forwardsTo a = none) : b.read a = (b.rawRead a, b) := by
  simp [Bus.read, h]

theorem Bus.write_of_unclaimed {b : Bus} {a : Word} (h : b.forwardsTo a = none) (v : Byte) :
    b.write a v = b.rawWrite a v := by
  simp [Bus.write, h]

/-- Only addresses of the I/O window are forwarded (20_memory.md rules R53, R56). -/
theorem Bus.forwardsTo_of_not_io {b : Bus} {a : Word} (h : ∀ i, route a ≠ .io i) : b.forwardsTo a = none := by
  unfold Bus.forwardsTo
  split
  · next i hi => exact absurd hi (h i)
  · rfl

/-- With no handler registered nothing is forwarded (20_memory.md rule R65, the closed configuration). -/
theorem Bus.forwardsTo_of_closed {b : Bus} (h : b.handlerAt = []) (a : Word) : b.forwardsTo a = none := by
  unfold Bus.forwardsTo
  split
  · simp [h, handlerHolding]
  · rfl

/-- While the guard is up nothing is forwarded (20_memory.md rule R59). -/
theorem Bus.forwardsTo_of_dispatching {b : Bus} (h : b.guard = .dispatching) (a : Word) : b.forwardsTo a = none := by
  unfold Bus.forwardsTo
  split
  · simp [h]
  · rfl

/-- The index a region's storage is accessed at lies inside that storage, and is the address's distance from the start of
the region's range (20_memory.md rule R40). -/
def Region.InBounds (a : Word) : Region → Prop
  | .rom x => x < 0x8000 ∧ a.toNat = x
  | .vram i => i < 0x2000 ∧ a.toNat = 0x8000 + i
  | .eram i => i < 0x2000 ∧ a.toNat = 0xA000 + i
  | .wram i => i < 0x2000 ∧ a.toNat = 0xC000 + i
  | .echo i => i < 0x1E00 ∧ a.toNat = 0xE000 + i
  | .oam i => i < 0xA0 ∧ a.toNat = 0xFE00 + i
  | .unusable => 0xFEA0 ≤ a.toNat ∧ a.toNat < 0xFF00
  | .io i => i < 0x80 ∧ a.toNat = 0xFF00 + i
  | .hram i => i < 0x7F ∧ a.toNat = 0xFF80 + i
  | .interruptEnable => a = 0xFFFF

theorem route_in_bounds (a : Word) : (route a).InBounds a := by
  have ha := a.isLt
  unfold route
  simp only
  by_cases h1 : a.toNat < 0x8000
  · rw [if_pos h1]; exact ⟨h1, rfl⟩
  rw [if_neg h1]
  by_cases h2 : a.toNat < 0xA000
  · rw [if_pos h2]; simp only [Region.InBounds]; omega
  rw [if_neg h2]
  by_cases h3 : a.toNat < 0xC000
  · rw [if_pos h3]; simp only [Region.InBounds]; omega
  rw [if_neg h3]
  by_cases h4 : a.toNat < 0xE000
  · rw [if_pos h4]; simp only [Region.InBounds]; omega
  rw [if_neg h4]
  by_cases h5 : a.toNat < 0xFE00
  · rw [if_pos h5]; simp only [Region.InBounds]; omega
  rw [if_neg h5]
  by_cases h6 : a.toNat < 0xFEA0
  · rw [if_pos h6]; simp only [Region.InBounds]; omega
  rw [if_neg h6]
  by_cases h7 : a.toNat < 0xFF00
  · rw [if_pos h7]; simp only [Region.InBounds]; omega
  rw [if_neg h7]
  by_cases h8 : a.toNat < 0xFF80
  · rw [if_pos h8]; simp only [Region.InBounds]; omega
  rw [if_neg h8]
  by_cases h9 : a.toNat < 0xFFFF
  · rw [if_pos h9]; simp only [Region.InBounds]; omega
  rw [if_neg h9]
  exact BitVec.eq_of_toNat_eq (by simpa using (by omega : a.toNat = 65535))

/-- Every address but those of the range 0xFF00 to 0xFF7F is outside the I/O window (20_memory.md rule R40). -/
theorem route_ne_io {a : Word} (h : a.toNat < 0xFF00 ∨ 0xFF80 ≤ a.toNat) (i : Nat) : route a ≠ .io i := by
  intro hr
  have hb := route_in_bounds a
  rw [hr] at hb
  obtain ⟨h1, h2⟩ := hb
  omega

/-! ### What every access keeps

A property of the bus that a raw write, the side effects of an I/O write and a change of the guard and the counter keep
is kept by every read and write, handlers included. -/

/-- A property every raw access and every change of the guard and the counter keeps. -/
structure Bus.Stable (P : Bus → Prop) : Prop where
  rawWrite : ∀ b a v, P b → P (b.rawWrite a v)
  ioSideEffects : ∀ b i v, P b → P (b.ioSideEffects i v)
  bookkeeping : ∀ b g d, P b → P { b with guard := g, draws := d }

theorem runHandler_keeps {P : Bus → Prop} (hw : ∀ b a v, P b → P (b.rawWrite a v)) (r : HandlerRun) (b : Bus)
    (h : P b) : P (runHandler r b).2 := by
  induction r generalizing b with
  | done v => exact h
  | read a next ih => exact ih _ b h
  | write a v next ih => exact ih _ (hw b a v h)

theorem Bus.invoke_keeps {P : Bus → Prop} (hP : Bus.Stable P) (r : HandlerRun) (b : Bus) (h : P b) :
    P (b.invoke r).2 := by
  have h1 := runHandler_keeps hP.rawWrite r { b with guard := .dispatching, draws := b.draws + 1 }
    (hP.bookkeeping _ _ _ h)
  exact hP.bookkeeping _ .idle (runHandler r { b with guard := .dispatching, draws := b.draws + 1 }).2.draws h1

theorem Bus.read_keeps {P : Bus → Prop} (hP : Bus.Stable P) (b : Bus) (a : Word) (h : P b) : P (b.read a).2 := by
  unfold Bus.read
  split
  · exact Bus.invoke_keeps hP _ b h
  · exact h

theorem Bus.write_keeps {P : Bus → Prop} (hP : Bus.Stable P) (b : Bus) (a : Word) (v : Byte) (h : P b) :
    P (b.write a v) := by
  unfold Bus.write
  split
  · refine Bus.invoke_keeps hP _ _ ?_
    unfold Bus.writeSideEffects
    split
    · exact hP.ioSideEffects _ _ _ h
    · exact h
  · exact hP.rawWrite b a v h

/-! ### The guard -/

theorem Bus.ioSideEffects_guard (b : Bus) (i : Nat) (v : Byte) : (b.ioSideEffects i v).guard = b.guard := rfl

theorem Bus.rawWrite_guard (b : Bus) (a : Word) (v : Byte) : (b.rawWrite a v).guard = b.guard := by
  unfold Bus.rawWrite; split <;> try split
  all_goals rfl

@[simp] theorem Bus.invoke_guard (b : Bus) (r : HandlerRun) : (b.invoke r).2.guard = .idle := rfl

/-- An access leaves the guard idle if it was idle (20_memory.md rule R58). -/
theorem Bus.read_guard {b : Bus} (h : b.guard = .idle) (a : Word) : (b.read a).2.guard = .idle := by
  unfold Bus.read
  split
  · rfl
  · exact h

theorem Bus.write_guard {b : Bus} (h : b.guard = .idle) (a : Word) (v : Byte) : (b.write a v).guard = .idle := by
  unfold Bus.write
  split
  · rfl
  · rw [Bus.rawWrite_guard, h]

/-! ### What only the host changes -/

theorem Bus.ioSideEffects_hostSide (b : Bus) (i : Nat) (v : Byte) :
    (b.ioSideEffects i v).hostSide = b.hostSide := rfl

theorem Bus.rawWrite_hostSide (b : Bus) (a : Word) (v : Byte) : (b.rawWrite a v).hostSide = b.hostSide := by
  unfold Bus.rawWrite; split <;> try split
  all_goals rfl

theorem Bus.stable_hostSide (x : HostSide) : Bus.Stable fun b => b.hostSide = x where
  rawWrite b a v h := (Bus.rawWrite_hostSide b a v).trans h
  ioSideEffects b i v h := (Bus.ioSideEffects_hostSide b i v).trans h
  bookkeeping _ _ _ h := h

/-! ### The boot latch and the serial log -/

theorem Bus.ioSideEffects_booting {b : Bus} (h : b.booting = false) (i : Nat) (v : Byte) :
    (b.ioSideEffects i v).booting = false := by
  simp [Bus.ioSideEffects, h]

theorem Bus.ioSideEffects_log (b : Bus) (i : Nat) (v : Byte) : b.serialLog <+: (b.ioSideEffects i v).serialLog := by
  unfold Bus.ioSideEffects
  simp only
  split
  · exact List.prefix_append _ _
  · exact List.prefix_refl _

/-- The boot latch never goes up (20_memory.md rule R61). -/
theorem Bus.stable_boot_off : Bus.Stable fun b => b.booting = false where
  rawWrite b a v h := by
    unfold Bus.rawWrite; split <;> try split
    all_goals first | exact h | exact Bus.ioSideEffects_booting h _ v
  ioSideEffects _ i v h := Bus.ioSideEffects_booting h i v
  bookkeeping _ _ _ h := h

/-- The serial log only grows (10_state.md rule R25). -/
theorem Bus.stable_log (log : List Byte) : Bus.Stable fun b => log <+: b.serialLog where
  rawWrite b a v h := by
    unfold Bus.rawWrite; split <;> try split
    all_goals first | exact h | exact h.trans (Bus.ioSideEffects_log b _ v)
  ioSideEffects b i v h := h.trans (Bus.ioSideEffects_log b i v)
  bookkeeping _ _ _ h := h

/-! ### The bank controller -/

theorem bankControl_kind (m : BankController) (a : Nat) (v : Byte) : (bankControl m a v).kind = m.kind := by
  unfold bankControl mbc1Control
  split
  · rfl
  · simp only; repeat' split
    all_goals rfl

theorem bankControl_eram (m : BankController) (a : Nat) (v : Byte) : (bankControl m a v).eram = m.eram := by
  unfold bankControl mbc1Control
  split
  · rfl
  · simp only; repeat' split
    all_goals rfl

theorem romBank_low_of_select (bank : BitVec 7) (lo : BitVec 5) (h : lo ≠ 0) :
    ((bank &&& 0x60) ||| lo.zeroExtend 7).extractLsb' 0 5 ≠ 0 := by
  revert h; revert lo bank; decide

theorem romBank_low_of_high (bank : BitVec 7) (hi : BitVec 2) (h : bank.extractLsb' 0 5 ≠ 0) :
    ((bank &&& 0x1F) ||| (hi.zeroExtend 7 <<< 5)).extractLsb' 0 5 ≠ 0 := by
  revert h; revert hi bank; decide

theorem bankControl_allowed {m : BankController} (h : m.Allowed) (a : Nat) (v : Byte) : (bankControl m a v).Allowed := by
  unfold bankControl
  split
  · exact h
  · next hk =>
    have hlow := h.2 hk
    unfold mbc1Control
    simp only
    repeat' split
    all_goals refine ⟨fun h => absurd (hk.symm.trans h) (by decide), fun _ => ?_⟩
    all_goals first | exact hlow | skip
    · exact romBank_low_of_select _ _ (by decide)
    · exact romBank_low_of_select _ _ ‹_›
    · exact romBank_low_of_high _ _ hlow

theorem eramWrite_allowed {p : Params} {m : BankController} (h : m.Allowed) (i : Nat) (v : Byte) :
    (eramWrite p m i v).Allowed := by
  unfold eramWrite; split <;> exact h

theorem eramWrite_kind (p : Params) (m : BankController) (i : Nat) (v : Byte) : (eramWrite p m i v).kind = m.kind := by
  unfold eramWrite; split <;> rfl

theorem eramWrite_eram {p : Params} {m : BankController} (h : Memory.buffer m.eram p.eramSize) (i : Nat) (v : Byte) :
    Memory.buffer (eramWrite p m i v).eram p.eramSize := by
  unfold eramWrite
  split
  · next hc =>
    refine writeCell_buffer h (Nat.mod_lt _ ?_) v
    simp at hc
    omega
  · exact h

/-! ### The invariant -/

theorem Bus.ioSideEffects_sound {b : Bus} (h : b.Sound) (i : Nat) (v : Byte) : (b.ioSideEffects i v).Sound := h

theorem Bus.ioSideEffects_io (b : Bus) (i : Nat) (v : Byte) : (b.ioSideEffects i v).io = b.io := rfl

theorem Bus.rawWrite_sound {b : Bus} (h : b.Sound) (a : Word) (v : Byte) : (b.rawWrite a v).Sound := by
  obtain ⟨⟨hw, hv, ho, hi, hh, he⟩, hm, hk⟩ := h
  have hb := route_in_bounds a
  unfold Bus.rawWrite
  revert hb
  cases route a <;> intro hb <;> simp only [Region.InBounds] at hb ⊢
  · exact ⟨⟨hw, hv, ho, hi, hh, by rw [bankControl_eram]; exact he⟩, bankControl_allowed hm _ _, by
      rw [bankControl_kind]; exact hk⟩
  · split
    · exact ⟨⟨hw, writeCell_buffer hv hb.1 _, ho, hi, hh, he⟩, hm, hk⟩
    · exact ⟨⟨hw, hv, ho, hi, hh, he⟩, hm, hk⟩
  · exact ⟨⟨hw, hv, ho, hi, hh, eramWrite_eram he _ _⟩, eramWrite_allowed hm _ _, by rw [eramWrite_kind]; exact hk⟩
  · exact ⟨⟨writeCell_buffer hw hb.1 _, hv, ho, hi, hh, he⟩, hm, hk⟩
  · exact ⟨⟨writeCell_buffer hw (by omega) _, hv, ho, hi, hh, he⟩, hm, hk⟩
  · split
    · exact ⟨⟨hw, hv, writeCell_buffer ho hb.1 _, hi, hh, he⟩, hm, hk⟩
    · exact ⟨⟨hw, hv, ho, hi, hh, he⟩, hm, hk⟩
  · exact ⟨⟨hw, hv, ho, hi, hh, he⟩, hm, hk⟩
  · next i =>
    obtain ⟨⟨hw', hv', ho', hi', hh', he'⟩, hm', hk'⟩ :=
      Bus.ioSideEffects_sound (b := b) ⟨⟨hw, hv, ho, hi, hh, he⟩, hm, hk⟩ i v
    exact ⟨⟨hw', hv', ho', writeCell_buffer hi' (by omega) _, hh', he'⟩, hm', hk'⟩
  · exact ⟨⟨hw, hv, ho, hi, writeCell_buffer hh hb.1 _, he⟩, hm, hk⟩
  · exact ⟨⟨hw, hv, ho, writeCell_buffer hi (by decide) _, hh, he⟩, hm, hk⟩

theorem Bus.stable_sound : Bus.Stable fun b => b.Sound where
  rawWrite _ a v h := Bus.rawWrite_sound h a v
  ioSideEffects _ i v h := Bus.ioSideEffects_sound h i v
  bookkeeping _ _ _ h := h

/-! ### Which buses an interpreter reaches -/

/-- The bus after some reads and writes. -/
inductive Bus.Reaches (b : Bus) : Bus → Prop where
  | refl : Bus.Reaches b b
  | read {c : Bus} (h : Bus.Reaches b c) (a : Word) : Bus.Reaches b (c.read a).2
  | write {c : Bus} (h : Bus.Reaches b c) (a : Word) (v : Byte) : Bus.Reaches b (c.write a v)

theorem Bus.Reaches.trans {b c d : Bus} (h : b.Reaches c) (h' : c.Reaches d) : b.Reaches d := by
  induction h' with
  | refl => exact h
  | read _ a ih => exact .read ih a
  | write _ a v ih => exact .write ih a v

/-- A stable property holds of every bus reached. -/
theorem Bus.Reaches.keeps {P : Bus → Prop} (hP : Bus.Stable P) {b c : Bus} (h : b.Reaches c) (hb : P b) : P c := by
  induction h with
  | refl => exact hb
  | read _ a ih => exact Bus.read_keeps hP _ a ih
  | write _ a v ih => exact Bus.write_keeps hP _ a v ih

theorem Bus.Reaches.guard_idle {b c : Bus} (h : b.Reaches c) (hb : b.guard = .idle) : c.guard = .idle := by
  induction h with
  | refl => exact hb
  | read _ a ih => exact Bus.read_guard ih a
  | write _ a v ih => exact Bus.write_guard ih a v

theorem Bus.Reaches.hostSide {b c : Bus} (h : b.Reaches c) : c.hostSide = b.hostSide :=
  h.keeps (Bus.stable_hostSide b.hostSide) rfl

theorem Bus.Reaches.sound {b c : Bus} (h : b.Reaches c) (hb : b.Sound) : c.Sound := h.keeps Bus.stable_sound hb

end Sys2Proof.Machine
end

