-- ==== Sys2Proof/Laws/Decode.lean ====
section
/-! SUPPORT. Decoding by the kind of the primary row, and the bytes of an instruction by its form. -/

namespace Sys2Proof

theorem decode_one {op : Byte} {i : Instr} (h : primaryRow op = .one i) (rest : List Byte) :
    decode (op :: rest) = .ok (i, rest) := by
  simp only [decode, h]

theorem decode_imm8 {op b : Byte} {f : Byte → Instr} (h : primaryRow op = .imm8 f) (rest : List Byte) :
    decode (op :: b :: rest) = .ok (f b, rest) := by
  simp only [decode, h]

theorem decode_imm16 {op : Byte} {w : Word} {f : Word → Instr} (h : primaryRow op = .imm16 f) (rest : List Byte) :
    decode (op :: lowByte w :: highByte w :: rest) = .ok (f w, rest) := by
  simp only [decode, h]
  rw [Machine.imm16_lowByte_highByte]

theorem decode_escape {op2 : Byte} {i : Instr} (h : secondaryRow op2 = i) (rest : List Byte) :
    decode (0xCB :: op2 :: rest) = .ok (i, rest) := by
  have he : primaryRow 0xCB = .escape := rfl
  simp only [decode, he, h]

/-- An instruction's encoding is the bytes of its form. -/
theorem encode_of_form {i : Instr} {f : Form} (h : i.form = f) : encode i = f.bytes := by
  subst h
  cases i <;> rfl

end Sys2Proof
end

