-- ==== Sys2Proof/Laws/Dispatch.lean ====
section
/-! SUPPORT. One equation for `exec`: an instruction's meaning is its form's shared operation. Statements about
instructions of one form are proved through it, with no case split over `Instr`. -/

namespace Sys2Proof.Machine

/-- The shared operation of a form. -/
def runForm : Form → State → Result
  | .nop => nop
  | .halt => halt
  | .stop d8 => stop d8
  | .di => di
  | .ei => ei
  | .ldRegReg d r => ldRegReg d r
  | .ldRegImm r d8 => ldRegImm r d8
  | .ldRegMem d => ldRegMem d
  | .ldMemReg r => ldMemReg r
  | .ldMemImm d8 => ldMemImm d8
  | .ldAPtr p => ldAPtr p
  | .ldPtrA p => ldPtrA p
  | .ldAAbs a16 => ldAAbs a16
  | .ldAbsA a16 => ldAbsA a16
  | .ldhStore a8 => ldhStore a8
  | .ldhLoad a8 => ldhLoad a8
  | .ldHighCA => ldHighCA
  | .ldAHighC => ldAHighC
  | .ldPairImm rr d16 => ldPairImm rr d16
  | .ldSpHl => ldSpHl
  | .ldAbsSp a16 => ldAbsSp a16
  | .push qq => push qq
  | .pop qq => pop qq
  | .ldHlSp r8 => ldHlSp r8
  | .alu op src => alu op src
  | .inc8 o => inc8 o
  | .dec8 o => dec8 o
  | .daa => daa
  | .cpl => cpl
  | .scf => scf
  | .ccf => ccf
  | .addHl rr => addHl rr
  | .inc16 rr => inc16 rr
  | .dec16 rr => dec16 rr
  | .addSp r8 => addSp r8
  | .rotA op => rotA op
  | .shift op o => shift op o
  | .bit b o => bitTest b o
  | .res b o => resBit b o
  | .set b o => setBit b o
  | .jp a16 => jp a16
  | .jpCc cc a16 => jpCc cc a16
  | .jr r8 => jr r8
  | .jrCc cc r8 => jrCc cc r8
  | .jpHl => jpHl
  | .call a16 => call a16
  | .callCc cc a16 => callCc cc a16
  | .rst t => rst t
  | .ret => ret
  | .retCc cc => retCc cc
  | .reti => reti
  | .escape => escape
  | .unassigned op => unassigned op

/-- An instruction's meaning is its form's shared operation. -/
theorem exec_eq_runForm (i : Instr) (s : State) : exec i s = runForm i.form s := by
  cases i <;> rfl

/-- The same with the form named. -/
theorem exec_of_form {i : Instr} {f : Form} (h : i.form = f) (s : State) : exec i s = runForm f s := by
  rw [exec_eq_runForm, h]

end Sys2Proof.Machine
end

