-- ==== Sys2Proof/Laws/Fetch.lean ====
section
/-! SUPPORT. What fetching an instruction reads: the instruction the decoder gives for the bytes at the program counter. -/

namespace Sys2Proof.Machine

theorem State.fetch8_of_unclaimed {s : State} (h : s.bus.forwardsTo s.cpu.pc = none) :
    s.fetch8 = (s.bus.rawRead s.cpu.pc, { s with cpu := { s.cpu with pc := s.cpu.pc + 1 } }) := by
  simp only [State.fetch8, State.read, Bus.read_of_unclaimed h]

theorem State.fetch16_of_unclaimed {s : State} (h1 : s.bus.forwardsTo s.cpu.pc = none)
    (h2 : s.bus.forwardsTo (s.cpu.pc + 1) = none) :
    s.fetch16 = (imm16 (s.bus.rawRead s.cpu.pc) (s.bus.rawRead (s.cpu.pc + 1)),
      { s with cpu := { s.cpu with pc := s.cpu.pc + 1 + 1 } }) := by
  have h2' := State.fetch8_of_unclaimed (s := { s with cpu := { s.cpu with pc := s.cpu.pc + 1 } }) h2
  simp only [State.fetch16, State.fetch8_of_unclaimed h1]
  rw [h2']

theorem State.codeBytes_succ (s : State) (n : Nat) :
    s.codeBytes (n + 1) =
      s.bus.rawRead s.cpu.pc :: ({ s with cpu := { s.cpu with pc := s.cpu.pc + 1 } } : State).codeBytes n := by
  unfold State.codeBytes
  rw [List.range_succ_eq_map, List.map_cons, List.map_map]
  congr 1
  · simp
  · refine List.map_congr_left fun k _ => ?_
    have : BitVec.ofNat 16 (k + 1) = 1 + BitVec.ofNat 16 k := by
      rw [← BitVec.ofNat_add_ofNat, BitVec.add_comm]
      rfl
    simp only [Function.comp_apply, Nat.succ_eq_add_one, this, BitVec.add_assoc]

theorem State.codeUnclaimed_head {s : State} {n : Nat} (h : s.codeUnclaimed (n + 1)) :
    s.bus.forwardsTo s.cpu.pc = none := by
  simpa using h 0 (by omega)

theorem State.codeUnclaimed_tail {s : State} {n : Nat} (h : s.codeUnclaimed (n + 1)) :
    ({ s with cpu := { s.cpu with pc := s.cpu.pc + 1 } } : State).codeUnclaimed n := by
  intro k hk
  have h' := h (k + 1) (by omega)
  have : BitVec.ofNat 16 (k + 1) = 1 + BitVec.ofNat 16 k := by
    rw [← BitVec.ofNat_add_ofNat, BitVec.add_comm]
    rfl
  rw [this, ← BitVec.add_assoc] at h'
  exact h'

/-- Fetching reads the instruction that the decoder gives for the bytes at the program counter, and only moves the
program counter past them. -/
theorem State.fetchInstr_of_decode {s : State} {n : Nat} {i : Instr} (hu : s.codeUnclaimed n)
    (hd : decode (s.codeBytes n) = .ok (i, [])) (hi : i ≠ .prefixCb) :
    s.fetchInstr = (i, { s with cpu := { s.cpu with pc := s.cpu.pc + BitVec.ofNat 16 n } }) := by
  match n with
  | 0 => cases hd
  | n + 1 =>
    have h0 := State.fetch8_of_unclaimed (State.codeUnclaimed_head hu)
    have hu' := State.codeUnclaimed_tail hu
    rw [State.codeBytes_succ] at hd
    simp only [decode] at hd
    simp only [State.fetchInstr, h0]
    revert hd
    cases hr : primaryRow (s.bus.rawRead s.cpu.pc) with
    | one j =>
      match n with
      | 0 => intro hd; cases hd; rfl
      | n + 1 => intro hd; rw [State.codeBytes_succ] at hd; cases hd
    | imm8 f =>
      match n with
      | 0 => intro hd; cases hd
      | 1 =>
        intro hd
        cases hd
        simp only [State.fetch8_of_unclaimed (State.codeUnclaimed_head hu'), BitVec.add_assoc]
        rfl
      | n + 2 => intro hd; rw [State.codeBytes_succ, State.codeBytes_succ] at hd; cases hd
    | imm16 f =>
      match n with
      | 0 => intro hd; cases hd
      | 1 => intro hd; cases hd
      | 2 =>
        rw [State.codeBytes_succ, State.codeBytes_succ]
        intro hd
        simp only [Except.ok.injEq, Prod.mk.injEq] at hd
        have h16 := State.fetch16_of_unclaimed (State.codeUnclaimed_head hu')
          (State.codeUnclaimed_head (State.codeUnclaimed_tail hu'))
        rw [← hd.1]
        simp only [h16, BitVec.add_assoc]
        rfl
      | n + 3 =>
        intro hd; rw [State.codeBytes_succ, State.codeBytes_succ, State.codeBytes_succ] at hd; cases hd
    | escape =>
      match n with
      | 0 => intro hd; cases hd; exact absurd rfl hi
      | 1 =>
        intro hd
        cases hd
        simp only [State.fetch8_of_unclaimed (State.codeUnclaimed_head hu'), BitVec.add_assoc]
        rfl
      | n + 2 => intro hd; rw [State.codeBytes_succ, State.codeBytes_succ] at hd; cases hd

end Sys2Proof.Machine
end

