-- ==== Sys2Proof/Laws/PerInstr.lean ====
section
/-! SUPPORT. The family `EncodingForm`: the bytes of each instruction, built from its operand fields as its rule gives them,
are what the encoder's table holds, and decode to exactly that instruction. One lemma per constructor. -/

namespace Sys2Proof.Laws.EncodingForm

/-- The encoder's row is the rule's bit pattern, and the decoder reads the instruction from that pattern (30_encoding.md
rules R101 to R107). -/
def Statement (i : Instr) : Prop := encode i = i.form.bytes ∧ decode i.form.bytes = .ok (i, [])

theorem ldBcD16 (d16 : Word) : Statement (.ldBcD16 d16) := ⟨rfl, decode_imm16 (f := .ldBcD16) rfl []⟩
theorem ldBD8 (d8 : Byte) : Statement (.ldBD8 d8) := ⟨rfl, rfl⟩
theorem ldMemA16Sp (a16 : Word) : Statement (.ldMemA16Sp a16) := ⟨rfl, decode_imm16 (f := .ldMemA16Sp) rfl []⟩
theorem ldCD8 (d8 : Byte) : Statement (.ldCD8 d8) := ⟨rfl, rfl⟩
theorem stop (d8 : Byte) : Statement (.stop d8) := ⟨rfl, rfl⟩
theorem ldDeD16 (d16 : Word) : Statement (.ldDeD16 d16) := ⟨rfl, decode_imm16 (f := .ldDeD16) rfl []⟩
theorem ldDD8 (d8 : Byte) : Statement (.ldDD8 d8) := ⟨rfl, rfl⟩
theorem jrR8 (r8 : Byte) : Statement (.jrR8 r8) := ⟨rfl, rfl⟩
theorem ldED8 (d8 : Byte) : Statement (.ldED8 d8) := ⟨rfl, rfl⟩
theorem jrNzR8 (r8 : Byte) : Statement (.jrNzR8 r8) := ⟨rfl, rfl⟩
theorem ldHlD16 (d16 : Word) : Statement (.ldHlD16 d16) := ⟨rfl, decode_imm16 (f := .ldHlD16) rfl []⟩
theorem ldHD8 (d8 : Byte) : Statement (.ldHD8 d8) := ⟨rfl, rfl⟩
theorem jrZR8 (r8 : Byte) : Statement (.jrZR8 r8) := ⟨rfl, rfl⟩
theorem ldLD8 (d8 : Byte) : Statement (.ldLD8 d8) := ⟨rfl, rfl⟩
theorem jrNcR8 (r8 : Byte) : Statement (.jrNcR8 r8) := ⟨rfl, rfl⟩
theorem ldSpD16 (d16 : Word) : Statement (.ldSpD16 d16) := ⟨rfl, decode_imm16 (f := .ldSpD16) rfl []⟩
theorem ldMemHlD8 (d8 : Byte) : Statement (.ldMemHlD8 d8) := ⟨rfl, rfl⟩
theorem jrCR8 (r8 : Byte) : Statement (.jrCR8 r8) := ⟨rfl, rfl⟩
theorem ldAD8 (d8 : Byte) : Statement (.ldAD8 d8) := ⟨rfl, rfl⟩
theorem jpNzA16 (a16 : Word) : Statement (.jpNzA16 a16) := ⟨rfl, decode_imm16 (f := .jpNzA16) rfl []⟩
theorem jpA16 (a16 : Word) : Statement (.jpA16 a16) := ⟨rfl, decode_imm16 (f := .jpA16) rfl []⟩
theorem callNzA16 (a16 : Word) : Statement (.callNzA16 a16) := ⟨rfl, decode_imm16 (f := .callNzA16) rfl []⟩
theorem addAD8 (d8 : Byte) : Statement (.addAD8 d8) := ⟨rfl, rfl⟩
theorem jpZA16 (a16 : Word) : Statement (.jpZA16 a16) := ⟨rfl, decode_imm16 (f := .jpZA16) rfl []⟩
theorem callZA16 (a16 : Word) : Statement (.callZA16 a16) := ⟨rfl, decode_imm16 (f := .callZA16) rfl []⟩
theorem callA16 (a16 : Word) : Statement (.callA16 a16) := ⟨rfl, decode_imm16 (f := .callA16) rfl []⟩
theorem adcAD8 (d8 : Byte) : Statement (.adcAD8 d8) := ⟨rfl, rfl⟩
theorem jpNcA16 (a16 : Word) : Statement (.jpNcA16 a16) := ⟨rfl, decode_imm16 (f := .jpNcA16) rfl []⟩
theorem callNcA16 (a16 : Word) : Statement (.callNcA16 a16) := ⟨rfl, decode_imm16 (f := .callNcA16) rfl []⟩
theorem subD8 (d8 : Byte) : Statement (.subD8 d8) := ⟨rfl, rfl⟩
theorem jpCA16 (a16 : Word) : Statement (.jpCA16 a16) := ⟨rfl, decode_imm16 (f := .jpCA16) rfl []⟩
theorem callCA16 (a16 : Word) : Statement (.callCA16 a16) := ⟨rfl, decode_imm16 (f := .callCA16) rfl []⟩
theorem sbcAD8 (d8 : Byte) : Statement (.sbcAD8 d8) := ⟨rfl, rfl⟩
theorem ldhMemA8A (a8 : Byte) : Statement (.ldhMemA8A a8) := ⟨rfl, rfl⟩
theorem andD8 (d8 : Byte) : Statement (.andD8 d8) := ⟨rfl, rfl⟩
theorem addSpR8 (r8 : Byte) : Statement (.addSpR8 r8) := ⟨rfl, rfl⟩
theorem ldMemA16A (a16 : Word) : Statement (.ldMemA16A a16) := ⟨rfl, decode_imm16 (f := .ldMemA16A) rfl []⟩
theorem xorD8 (d8 : Byte) : Statement (.xorD8 d8) := ⟨rfl, rfl⟩
theorem ldhAMemA8 (a8 : Byte) : Statement (.ldhAMemA8 a8) := ⟨rfl, rfl⟩
theorem orD8 (d8 : Byte) : Statement (.orD8 d8) := ⟨rfl, rfl⟩
theorem ldHlSpR8 (r8 : Byte) : Statement (.ldHlSpR8 r8) := ⟨rfl, rfl⟩
theorem ldAMemA16 (a16 : Word) : Statement (.ldAMemA16 a16) := ⟨rfl, decode_imm16 (f := .ldAMemA16) rfl []⟩
theorem cpD8 (d8 : Byte) : Statement (.cpD8 d8) := ⟨rfl, rfl⟩
theorem nop : Statement .nop := ⟨rfl, rfl⟩
theorem ldMemBcA : Statement .ldMemBcA := ⟨rfl, rfl⟩
theorem incBc : Statement .incBc := ⟨rfl, rfl⟩
theorem incB : Statement .incB := ⟨rfl, rfl⟩
theorem decB : Statement .decB := ⟨rfl, rfl⟩
theorem rlca : Statement .rlca := ⟨rfl, rfl⟩
theorem addHlBc : Statement .addHlBc := ⟨rfl, rfl⟩
theorem ldAMemBc : Statement .ldAMemBc := ⟨rfl, rfl⟩
theorem decBc : Statement .decBc := ⟨rfl, rfl⟩
theorem incC : Statement .incC := ⟨rfl, rfl⟩
theorem decC : Statement .decC := ⟨rfl, rfl⟩
theorem rrca : Statement .rrca := ⟨rfl, rfl⟩
theorem ldMemDeA : Statement .ldMemDeA := ⟨rfl, rfl⟩
theorem incDe : Statement .incDe := ⟨rfl, rfl⟩
theorem incD : Statement .incD := ⟨rfl, rfl⟩
theorem decD : Statement .decD := ⟨rfl, rfl⟩
theorem rla : Statement .rla := ⟨rfl, rfl⟩
theorem addHlDe : Statement .addHlDe := ⟨rfl, rfl⟩
theorem ldAMemDe : Statement .ldAMemDe := ⟨rfl, rfl⟩
theorem decDe : Statement .decDe := ⟨rfl, rfl⟩
theorem incE : Statement .incE := ⟨rfl, rfl⟩
theorem decE : Statement .decE := ⟨rfl, rfl⟩
theorem rra : Statement .rra := ⟨rfl, rfl⟩
theorem ldMemHlIncA : Statement .ldMemHlIncA := ⟨rfl, rfl⟩
theorem incHl : Statement .incHl := ⟨rfl, rfl⟩
theorem incH : Statement .incH := ⟨rfl, rfl⟩
theorem decH : Statement .decH := ⟨rfl, rfl⟩
theorem daa : Statement .daa := ⟨rfl, rfl⟩
theorem addHlHl : Statement .addHlHl := ⟨rfl, rfl⟩
theorem ldAMemHlInc : Statement .ldAMemHlInc := ⟨rfl, rfl⟩
theorem decHl : Statement .decHl := ⟨rfl, rfl⟩
theorem incL : Statement .incL := ⟨rfl, rfl⟩
theorem decL : Statement .decL := ⟨rfl, rfl⟩
theorem cplA : Statement .cplA := ⟨rfl, rfl⟩
theorem ldMemHlDecA : Statement .ldMemHlDecA := ⟨rfl, rfl⟩
theorem incSp : Statement .incSp := ⟨rfl, rfl⟩
theorem incMemHl : Statement .incMemHl := ⟨rfl, rfl⟩
theorem decMemHl : Statement .decMemHl := ⟨rfl, rfl⟩
theorem scf : Statement .scf := ⟨rfl, rfl⟩
theorem addHlSp : Statement .addHlSp := ⟨rfl, rfl⟩
theorem ldAMemHlDec : Statement .ldAMemHlDec := ⟨rfl, rfl⟩
theorem decSp : Statement .decSp := ⟨rfl, rfl⟩
theorem incA : Statement .incA := ⟨rfl, rfl⟩
theorem decA : Statement .decA := ⟨rfl, rfl⟩
theorem ccf : Statement .ccf := ⟨rfl, rfl⟩
theorem ldBB : Statement .ldBB := ⟨rfl, rfl⟩
theorem ldBC : Statement .ldBC := ⟨rfl, rfl⟩
theorem ldBD : Statement .ldBD := ⟨rfl, rfl⟩
theorem ldBE : Statement .ldBE := ⟨rfl, rfl⟩
theorem ldBH : Statement .ldBH := ⟨rfl, rfl⟩
theorem ldBL : Statement .ldBL := ⟨rfl, rfl⟩
theorem ldBMemHl : Statement .ldBMemHl := ⟨rfl, rfl⟩
theorem ldBA : Statement .ldBA := ⟨rfl, rfl⟩
theorem ldCB : Statement .ldCB := ⟨rfl, rfl⟩
theorem ldCC : Statement .ldCC := ⟨rfl, rfl⟩
theorem ldCD : Statement .ldCD := ⟨rfl, rfl⟩
theorem ldCE : Statement .ldCE := ⟨rfl, rfl⟩
theorem ldCH : Statement .ldCH := ⟨rfl, rfl⟩
theorem ldCL : Statement .ldCL := ⟨rfl, rfl⟩
theorem ldCMemHl : Statement .ldCMemHl := ⟨rfl, rfl⟩
theorem ldCA : Statement .ldCA := ⟨rfl, rfl⟩
theorem ldDB : Statement .ldDB := ⟨rfl, rfl⟩
theorem ldDC : Statement .ldDC := ⟨rfl, rfl⟩
theorem ldDD : Statement .ldDD := ⟨rfl, rfl⟩
theorem ldDE : Statement .ldDE := ⟨rfl, rfl⟩
theorem ldDH : Statement .ldDH := ⟨rfl, rfl⟩
theorem ldDL : Statement .ldDL := ⟨rfl, rfl⟩
theorem ldDMemHl : Statement .ldDMemHl := ⟨rfl, rfl⟩
theorem ldDA : Statement .ldDA := ⟨rfl, rfl⟩
theorem ldEB : Statement .ldEB := ⟨rfl, rfl⟩
theorem ldEC : Statement .ldEC := ⟨rfl, rfl⟩
theorem ldED : Statement .ldED := ⟨rfl, rfl⟩
theorem ldEE : Statement .ldEE := ⟨rfl, rfl⟩
theorem ldEH : Statement .ldEH := ⟨rfl, rfl⟩
theorem ldEL : Statement .ldEL := ⟨rfl, rfl⟩
theorem ldEMemHl : Statement .ldEMemHl := ⟨rfl, rfl⟩
theorem ldEA : Statement .ldEA := ⟨rfl, rfl⟩
theorem ldHB : Statement .ldHB := ⟨rfl, rfl⟩
theorem ldHC : Statement .ldHC := ⟨rfl, rfl⟩
theorem ldHD : Statement .ldHD := ⟨rfl, rfl⟩
theorem ldHE : Statement .ldHE := ⟨rfl, rfl⟩
theorem ldHH : Statement .ldHH := ⟨rfl, rfl⟩
theorem ldHL : Statement .ldHL := ⟨rfl, rfl⟩
theorem ldHMemHl : Statement .ldHMemHl := ⟨rfl, rfl⟩
theorem ldHA : Statement .ldHA := ⟨rfl, rfl⟩
theorem ldLB : Statement .ldLB := ⟨rfl, rfl⟩
theorem ldLC : Statement .ldLC := ⟨rfl, rfl⟩
theorem ldLD : Statement .ldLD := ⟨rfl, rfl⟩
theorem ldLE : Statement .ldLE := ⟨rfl, rfl⟩
theorem ldLH : Statement .ldLH := ⟨rfl, rfl⟩
theorem ldLL : Statement .ldLL := ⟨rfl, rfl⟩
theorem ldLMemHl : Statement .ldLMemHl := ⟨rfl, rfl⟩
theorem ldLA : Statement .ldLA := ⟨rfl, rfl⟩
theorem ldMemHlB : Statement .ldMemHlB := ⟨rfl, rfl⟩
theorem ldMemHlC : Statement .ldMemHlC := ⟨rfl, rfl⟩
theorem ldMemHlD : Statement .ldMemHlD := ⟨rfl, rfl⟩
theorem ldMemHlE : Statement .ldMemHlE := ⟨rfl, rfl⟩
theorem ldMemHlH : Statement .ldMemHlH := ⟨rfl, rfl⟩
theorem ldMemHlL : Statement .ldMemHlL := ⟨rfl, rfl⟩
theorem halt : Statement .halt := ⟨rfl, rfl⟩
theorem ldMemHlA : Statement .ldMemHlA := ⟨rfl, rfl⟩
theorem ldAB : Statement .ldAB := ⟨rfl, rfl⟩
theorem ldAC : Statement .ldAC := ⟨rfl, rfl⟩
theorem ldAD : Statement .ldAD := ⟨rfl, rfl⟩
theorem ldAE : Statement .ldAE := ⟨rfl, rfl⟩
theorem ldAH : Statement .ldAH := ⟨rfl, rfl⟩
theorem ldAL : Statement .ldAL := ⟨rfl, rfl⟩
theorem ldAMemHl : Statement .ldAMemHl := ⟨rfl, rfl⟩
theorem ldAA : Statement .ldAA := ⟨rfl, rfl⟩
theorem addAB : Statement .addAB := ⟨rfl, rfl⟩
theorem addAC : Statement .addAC := ⟨rfl, rfl⟩
theorem addAD : Statement .addAD := ⟨rfl, rfl⟩
theorem addAE : Statement .addAE := ⟨rfl, rfl⟩
theorem addAH : Statement .addAH := ⟨rfl, rfl⟩
theorem addAL : Statement .addAL := ⟨rfl, rfl⟩
theorem addAMemHl : Statement .addAMemHl := ⟨rfl, rfl⟩
theorem addAA : Statement .addAA := ⟨rfl, rfl⟩
theorem adcAB : Statement .adcAB := ⟨rfl, rfl⟩
theorem adcAC : Statement .adcAC := ⟨rfl, rfl⟩
theorem adcAD : Statement .adcAD := ⟨rfl, rfl⟩
theorem adcAE : Statement .adcAE := ⟨rfl, rfl⟩
theorem adcAH : Statement .adcAH := ⟨rfl, rfl⟩
theorem adcAL : Statement .adcAL := ⟨rfl, rfl⟩
theorem adcAMemHl : Statement .adcAMemHl := ⟨rfl, rfl⟩
theorem adcAA : Statement .adcAA := ⟨rfl, rfl⟩
theorem subB : Statement .subB := ⟨rfl, rfl⟩
theorem subC : Statement .subC := ⟨rfl, rfl⟩
theorem subD : Statement .subD := ⟨rfl, rfl⟩
theorem subE : Statement .subE := ⟨rfl, rfl⟩
theorem subH : Statement .subH := ⟨rfl, rfl⟩
theorem subL : Statement .subL := ⟨rfl, rfl⟩
theorem subMemHl : Statement .subMemHl := ⟨rfl, rfl⟩
theorem subA : Statement .subA := ⟨rfl, rfl⟩
theorem sbcAB : Statement .sbcAB := ⟨rfl, rfl⟩
theorem sbcAC : Statement .sbcAC := ⟨rfl, rfl⟩
theorem sbcAD : Statement .sbcAD := ⟨rfl, rfl⟩
theorem sbcAE : Statement .sbcAE := ⟨rfl, rfl⟩
theorem sbcAH : Statement .sbcAH := ⟨rfl, rfl⟩
theorem sbcAL : Statement .sbcAL := ⟨rfl, rfl⟩
theorem sbcAMemHl : Statement .sbcAMemHl := ⟨rfl, rfl⟩
theorem sbcAA : Statement .sbcAA := ⟨rfl, rfl⟩
theorem andB : Statement .andB := ⟨rfl, rfl⟩
theorem andC : Statement .andC := ⟨rfl, rfl⟩
theorem andD : Statement .andD := ⟨rfl, rfl⟩
theorem andE : Statement .andE := ⟨rfl, rfl⟩
theorem andH : Statement .andH := ⟨rfl, rfl⟩
theorem andL : Statement .andL := ⟨rfl, rfl⟩
theorem andMemHl : Statement .andMemHl := ⟨rfl, rfl⟩
theorem andA : Statement .andA := ⟨rfl, rfl⟩
theorem xorB : Statement .xorB := ⟨rfl, rfl⟩
theorem xorC : Statement .xorC := ⟨rfl, rfl⟩
theorem xorD : Statement .xorD := ⟨rfl, rfl⟩
theorem xorE : Statement .xorE := ⟨rfl, rfl⟩
theorem xorH : Statement .xorH := ⟨rfl, rfl⟩
theorem xorL : Statement .xorL := ⟨rfl, rfl⟩
theorem xorMemHl : Statement .xorMemHl := ⟨rfl, rfl⟩
theorem xorA : Statement .xorA := ⟨rfl, rfl⟩
theorem orB : Statement .orB := ⟨rfl, rfl⟩
theorem orC : Statement .orC := ⟨rfl, rfl⟩
theorem orD : Statement .orD := ⟨rfl, rfl⟩
theorem orE : Statement .orE := ⟨rfl, rfl⟩
theorem orH : Statement .orH := ⟨rfl, rfl⟩
theorem orL : Statement .orL := ⟨rfl, rfl⟩
theorem orMemHl : Statement .orMemHl := ⟨rfl, rfl⟩
theorem orA : Statement .orA := ⟨rfl, rfl⟩
theorem cpB : Statement .cpB := ⟨rfl, rfl⟩
theorem cpC : Statement .cpC := ⟨rfl, rfl⟩
theorem cpD : Statement .cpD := ⟨rfl, rfl⟩
theorem cpE : Statement .cpE := ⟨rfl, rfl⟩
theorem cpH : Statement .cpH := ⟨rfl, rfl⟩
theorem cpL : Statement .cpL := ⟨rfl, rfl⟩
theorem cpMemHl : Statement .cpMemHl := ⟨rfl, rfl⟩
theorem cpA : Statement .cpA := ⟨rfl, rfl⟩
theorem retNz : Statement .retNz := ⟨rfl, rfl⟩
theorem popBc : Statement .popBc := ⟨rfl, rfl⟩
theorem pushBc : Statement .pushBc := ⟨rfl, rfl⟩
theorem rst00 : Statement .rst00 := ⟨rfl, rfl⟩
theorem retZ : Statement .retZ := ⟨rfl, rfl⟩
theorem ret : Statement .ret := ⟨rfl, rfl⟩
theorem prefixCb : Statement .prefixCb := ⟨rfl, rfl⟩
theorem rst08 : Statement .rst08 := ⟨rfl, rfl⟩
theorem retNc : Statement .retNc := ⟨rfl, rfl⟩
theorem popDe : Statement .popDe := ⟨rfl, rfl⟩
theorem illegalD3 : Statement .illegalD3 := ⟨rfl, rfl⟩
theorem pushDe : Statement .pushDe := ⟨rfl, rfl⟩
theorem rst10 : Statement .rst10 := ⟨rfl, rfl⟩
theorem retC : Statement .retC := ⟨rfl, rfl⟩
theorem reti : Statement .reti := ⟨rfl, rfl⟩
theorem illegalDB : Statement .illegalDB := ⟨rfl, rfl⟩
theorem illegalDD : Statement .illegalDD := ⟨rfl, rfl⟩
theorem rst18 : Statement .rst18 := ⟨rfl, rfl⟩
theorem popHl : Statement .popHl := ⟨rfl, rfl⟩
theorem ldMemCA : Statement .ldMemCA := ⟨rfl, rfl⟩
theorem illegalE3 : Statement .illegalE3 := ⟨rfl, rfl⟩
theorem illegalE4 : Statement .illegalE4 := ⟨rfl, rfl⟩
theorem pushHl : Statement .pushHl := ⟨rfl, rfl⟩
theorem rst20 : Statement .rst20 := ⟨rfl, rfl⟩
theorem jpHl : Statement .jpHl := ⟨rfl, rfl⟩
theorem illegalEB : Statement .illegalEB := ⟨rfl, rfl⟩
theorem illegalEC : Statement .illegalEC := ⟨rfl, rfl⟩
theorem illegalED : Statement .illegalED := ⟨rfl, rfl⟩
theorem rst28 : Statement .rst28 := ⟨rfl, rfl⟩
theorem popAf : Statement .popAf := ⟨rfl, rfl⟩
theorem ldAMemC : Statement .ldAMemC := ⟨rfl, rfl⟩
theorem di : Statement .di := ⟨rfl, rfl⟩
theorem illegalF4 : Statement .illegalF4 := ⟨rfl, rfl⟩
theorem pushAf : Statement .pushAf := ⟨rfl, rfl⟩
theorem rst30 : Statement .rst30 := ⟨rfl, rfl⟩
theorem ldSpHl : Statement .ldSpHl := ⟨rfl, rfl⟩
theorem ei : Statement .ei := ⟨rfl, rfl⟩
theorem illegalFC : Statement .illegalFC := ⟨rfl, rfl⟩
theorem illegalFD : Statement .illegalFD := ⟨rfl, rfl⟩
theorem rst38 : Statement .rst38 := ⟨rfl, rfl⟩
theorem cbRlcB : Statement .cbRlcB := ⟨rfl, rfl⟩
theorem cbRlcC : Statement .cbRlcC := ⟨rfl, rfl⟩
theorem cbRlcD : Statement .cbRlcD := ⟨rfl, rfl⟩
theorem cbRlcE : Statement .cbRlcE := ⟨rfl, rfl⟩
theorem cbRlcH : Statement .cbRlcH := ⟨rfl, rfl⟩
theorem cbRlcL : Statement .cbRlcL := ⟨rfl, rfl⟩
theorem cbRlcMemHl : Statement .cbRlcMemHl := ⟨rfl, rfl⟩
theorem cbRlcA : Statement .cbRlcA := ⟨rfl, rfl⟩
theorem cbRrcB : Statement .cbRrcB := ⟨rfl, rfl⟩
theorem cbRrcC : Statement .cbRrcC := ⟨rfl, rfl⟩
theorem cbRrcD : Statement .cbRrcD := ⟨rfl, rfl⟩
theorem cbRrcE : Statement .cbRrcE := ⟨rfl, rfl⟩
theorem cbRrcH : Statement .cbRrcH := ⟨rfl, rfl⟩
theorem cbRrcL : Statement .cbRrcL := ⟨rfl, rfl⟩
theorem cbRrcMemHl : Statement .cbRrcMemHl := ⟨rfl, rfl⟩
theorem cbRrcA : Statement .cbRrcA := ⟨rfl, rfl⟩
theorem cbRlB : Statement .cbRlB := ⟨rfl, rfl⟩
theorem cbRlC : Statement .cbRlC := ⟨rfl, rfl⟩
theorem cbRlD : Statement .cbRlD := ⟨rfl, rfl⟩
theorem cbRlE : Statement .cbRlE := ⟨rfl, rfl⟩
theorem cbRlH : Statement .cbRlH := ⟨rfl, rfl⟩
theorem cbRlL : Statement .cbRlL := ⟨rfl, rfl⟩
theorem cbRlMemHl : Statement .cbRlMemHl := ⟨rfl, rfl⟩
theorem cbRlA : Statement .cbRlA := ⟨rfl, rfl⟩
theorem cbRrB : Statement .cbRrB := ⟨rfl, rfl⟩
theorem cbRrC : Statement .cbRrC := ⟨rfl, rfl⟩
theorem cbRrD : Statement .cbRrD := ⟨rfl, rfl⟩
theorem cbRrE : Statement .cbRrE := ⟨rfl, rfl⟩
theorem cbRrH : Statement .cbRrH := ⟨rfl, rfl⟩
theorem cbRrL : Statement .cbRrL := ⟨rfl, rfl⟩
theorem cbRrMemHl : Statement .cbRrMemHl := ⟨rfl, rfl⟩
theorem cbRrA : Statement .cbRrA := ⟨rfl, rfl⟩
theorem cbSlaB : Statement .cbSlaB := ⟨rfl, rfl⟩
theorem cbSlaC : Statement .cbSlaC := ⟨rfl, rfl⟩
theorem cbSlaD : Statement .cbSlaD := ⟨rfl, rfl⟩
theorem cbSlaE : Statement .cbSlaE := ⟨rfl, rfl⟩
theorem cbSlaH : Statement .cbSlaH := ⟨rfl, rfl⟩
theorem cbSlaL : Statement .cbSlaL := ⟨rfl, rfl⟩
theorem cbSlaMemHl : Statement .cbSlaMemHl := ⟨rfl, rfl⟩
theorem cbSlaA : Statement .cbSlaA := ⟨rfl, rfl⟩
theorem cbSraB : Statement .cbSraB := ⟨rfl, rfl⟩
theorem cbSraC : Statement .cbSraC := ⟨rfl, rfl⟩
theorem cbSraD : Statement .cbSraD := ⟨rfl, rfl⟩
theorem cbSraE : Statement .cbSraE := ⟨rfl, rfl⟩
theorem cbSraH : Statement .cbSraH := ⟨rfl, rfl⟩
theorem cbSraL : Statement .cbSraL := ⟨rfl, rfl⟩
theorem cbSraMemHl : Statement .cbSraMemHl := ⟨rfl, rfl⟩
theorem cbSraA : Statement .cbSraA := ⟨rfl, rfl⟩
theorem cbSwapB : Statement .cbSwapB := ⟨rfl, rfl⟩
theorem cbSwapC : Statement .cbSwapC := ⟨rfl, rfl⟩
theorem cbSwapD : Statement .cbSwapD := ⟨rfl, rfl⟩
theorem cbSwapE : Statement .cbSwapE := ⟨rfl, rfl⟩
theorem cbSwapH : Statement .cbSwapH := ⟨rfl, rfl⟩
theorem cbSwapL : Statement .cbSwapL := ⟨rfl, rfl⟩
theorem cbSwapMemHl : Statement .cbSwapMemHl := ⟨rfl, rfl⟩
theorem cbSwapA : Statement .cbSwapA := ⟨rfl, rfl⟩
theorem cbSrlB : Statement .cbSrlB := ⟨rfl, rfl⟩
theorem cbSrlC : Statement .cbSrlC := ⟨rfl, rfl⟩
theorem cbSrlD : Statement .cbSrlD := ⟨rfl, rfl⟩
theorem cbSrlE : Statement .cbSrlE := ⟨rfl, rfl⟩
theorem cbSrlH : Statement .cbSrlH := ⟨rfl, rfl⟩
theorem cbSrlL : Statement .cbSrlL := ⟨rfl, rfl⟩
theorem cbSrlMemHl : Statement .cbSrlMemHl := ⟨rfl, rfl⟩
theorem cbSrlA : Statement .cbSrlA := ⟨rfl, rfl⟩
theorem cbBit0B : Statement .cbBit0B := ⟨rfl, rfl⟩
theorem cbBit0C : Statement .cbBit0C := ⟨rfl, rfl⟩
theorem cbBit0D : Statement .cbBit0D := ⟨rfl, rfl⟩
theorem cbBit0E : Statement .cbBit0E := ⟨rfl, rfl⟩
theorem cbBit0H : Statement .cbBit0H := ⟨rfl, rfl⟩
theorem cbBit0L : Statement .cbBit0L := ⟨rfl, rfl⟩
theorem cbBit0MemHl : Statement .cbBit0MemHl := ⟨rfl, rfl⟩
theorem cbBit0A : Statement .cbBit0A := ⟨rfl, rfl⟩
theorem cbBit1B : Statement .cbBit1B := ⟨rfl, rfl⟩
theorem cbBit1C : Statement .cbBit1C := ⟨rfl, rfl⟩
theorem cbBit1D : Statement .cbBit1D := ⟨rfl, rfl⟩
theorem cbBit1E : Statement .cbBit1E := ⟨rfl, rfl⟩
theorem cbBit1H : Statement .cbBit1H := ⟨rfl, rfl⟩
theorem cbBit1L : Statement .cbBit1L := ⟨rfl, rfl⟩
theorem cbBit1MemHl : Statement .cbBit1MemHl := ⟨rfl, rfl⟩
theorem cbBit1A : Statement .cbBit1A := ⟨rfl, rfl⟩
theorem cbBit2B : Statement .cbBit2B := ⟨rfl, rfl⟩
theorem cbBit2C : Statement .cbBit2C := ⟨rfl, rfl⟩
theorem cbBit2D : Statement .cbBit2D := ⟨rfl, rfl⟩
theorem cbBit2E : Statement .cbBit2E := ⟨rfl, rfl⟩
theorem cbBit2H : Statement .cbBit2H := ⟨rfl, rfl⟩
theorem cbBit2L : Statement .cbBit2L := ⟨rfl, rfl⟩
theorem cbBit2MemHl : Statement .cbBit2MemHl := ⟨rfl, rfl⟩
theorem cbBit2A : Statement .cbBit2A := ⟨rfl, rfl⟩
theorem cbBit3B : Statement .cbBit3B := ⟨rfl, rfl⟩
theorem cbBit3C : Statement .cbBit3C := ⟨rfl, rfl⟩
theorem cbBit3D : Statement .cbBit3D := ⟨rfl, rfl⟩
theorem cbBit3E : Statement .cbBit3E := ⟨rfl, rfl⟩
theorem cbBit3H : Statement .cbBit3H := ⟨rfl, rfl⟩
theorem cbBit3L : Statement .cbBit3L := ⟨rfl, rfl⟩
theorem cbBit3MemHl : Statement .cbBit3MemHl := ⟨rfl, rfl⟩
theorem cbBit3A : Statement .cbBit3A := ⟨rfl, rfl⟩
theorem cbBit4B : Statement .cbBit4B := ⟨rfl, rfl⟩
theorem cbBit4C : Statement .cbBit4C := ⟨rfl, rfl⟩
theorem cbBit4D : Statement .cbBit4D := ⟨rfl, rfl⟩
theorem cbBit4E : Statement .cbBit4E := ⟨rfl, rfl⟩
theorem cbBit4H : Statement .cbBit4H := ⟨rfl, rfl⟩
theorem cbBit4L : Statement .cbBit4L := ⟨rfl, rfl⟩
theorem cbBit4MemHl : Statement .cbBit4MemHl := ⟨rfl, rfl⟩
theorem cbBit4A : Statement .cbBit4A := ⟨rfl, rfl⟩
theorem cbBit5B : Statement .cbBit5B := ⟨rfl, rfl⟩
theorem cbBit5C : Statement .cbBit5C := ⟨rfl, rfl⟩
theorem cbBit5D : Statement .cbBit5D := ⟨rfl, rfl⟩
theorem cbBit5E : Statement .cbBit5E := ⟨rfl, rfl⟩
theorem cbBit5H : Statement .cbBit5H := ⟨rfl, rfl⟩
theorem cbBit5L : Statement .cbBit5L := ⟨rfl, rfl⟩
theorem cbBit5MemHl : Statement .cbBit5MemHl := ⟨rfl, rfl⟩
theorem cbBit5A : Statement .cbBit5A := ⟨rfl, rfl⟩
theorem cbBit6B : Statement .cbBit6B := ⟨rfl, rfl⟩
theorem cbBit6C : Statement .cbBit6C := ⟨rfl, rfl⟩
theorem cbBit6D : Statement .cbBit6D := ⟨rfl, rfl⟩
theorem cbBit6E : Statement .cbBit6E := ⟨rfl, rfl⟩
theorem cbBit6H : Statement .cbBit6H := ⟨rfl, rfl⟩
theorem cbBit6L : Statement .cbBit6L := ⟨rfl, rfl⟩
theorem cbBit6MemHl : Statement .cbBit6MemHl := ⟨rfl, rfl⟩
theorem cbBit6A : Statement .cbBit6A := ⟨rfl, rfl⟩
theorem cbBit7B : Statement .cbBit7B := ⟨rfl, rfl⟩
theorem cbBit7C : Statement .cbBit7C := ⟨rfl, rfl⟩
theorem cbBit7D : Statement .cbBit7D := ⟨rfl, rfl⟩
theorem cbBit7E : Statement .cbBit7E := ⟨rfl, rfl⟩
theorem cbBit7H : Statement .cbBit7H := ⟨rfl, rfl⟩
theorem cbBit7L : Statement .cbBit7L := ⟨rfl, rfl⟩
theorem cbBit7MemHl : Statement .cbBit7MemHl := ⟨rfl, rfl⟩
theorem cbBit7A : Statement .cbBit7A := ⟨rfl, rfl⟩
theorem cbRes0B : Statement .cbRes0B := ⟨rfl, rfl⟩
theorem cbRes0C : Statement .cbRes0C := ⟨rfl, rfl⟩
theorem cbRes0D : Statement .cbRes0D := ⟨rfl, rfl⟩
theorem cbRes0E : Statement .cbRes0E := ⟨rfl, rfl⟩
theorem cbRes0H : Statement .cbRes0H := ⟨rfl, rfl⟩
theorem cbRes0L : Statement .cbRes0L := ⟨rfl, rfl⟩
theorem cbRes0MemHl : Statement .cbRes0MemHl := ⟨rfl, rfl⟩
theorem cbRes0A : Statement .cbRes0A := ⟨rfl, rfl⟩
theorem cbRes1B : Statement .cbRes1B := ⟨rfl, rfl⟩
theorem cbRes1C : Statement .cbRes1C := ⟨rfl, rfl⟩
theorem cbRes1D : Statement .cbRes1D := ⟨rfl, rfl⟩
theorem cbRes1E : Statement .cbRes1E := ⟨rfl, rfl⟩
theorem cbRes1H : Statement .cbRes1H := ⟨rfl, rfl⟩
theorem cbRes1L : Statement .cbRes1L := ⟨rfl, rfl⟩
theorem cbRes1MemHl : Statement .cbRes1MemHl := ⟨rfl, rfl⟩
theorem cbRes1A : Statement .cbRes1A := ⟨rfl, rfl⟩
theorem cbRes2B : Statement .cbRes2B := ⟨rfl, rfl⟩
theorem cbRes2C : Statement .cbRes2C := ⟨rfl, rfl⟩
theorem cbRes2D : Statement .cbRes2D := ⟨rfl, rfl⟩
theorem cbRes2E : Statement .cbRes2E := ⟨rfl, rfl⟩
theorem cbRes2H : Statement .cbRes2H := ⟨rfl, rfl⟩
theorem cbRes2L : Statement .cbRes2L := ⟨rfl, rfl⟩
theorem cbRes2MemHl : Statement .cbRes2MemHl := ⟨rfl, rfl⟩
theorem cbRes2A : Statement .cbRes2A := ⟨rfl, rfl⟩
theorem cbRes3B : Statement .cbRes3B := ⟨rfl, rfl⟩
theorem cbRes3C : Statement .cbRes3C := ⟨rfl, rfl⟩
theorem cbRes3D : Statement .cbRes3D := ⟨rfl, rfl⟩
theorem cbRes3E : Statement .cbRes3E := ⟨rfl, rfl⟩
theorem cbRes3H : Statement .cbRes3H := ⟨rfl, rfl⟩
theorem cbRes3L : Statement .cbRes3L := ⟨rfl, rfl⟩
theorem cbRes3MemHl : Statement .cbRes3MemHl := ⟨rfl, rfl⟩
theorem cbRes3A : Statement .cbRes3A := ⟨rfl, rfl⟩
theorem cbRes4B : Statement .cbRes4B := ⟨rfl, rfl⟩
theorem cbRes4C : Statement .cbRes4C := ⟨rfl, rfl⟩
theorem cbRes4D : Statement .cbRes4D := ⟨rfl, rfl⟩
theorem cbRes4E : Statement .cbRes4E := ⟨rfl, rfl⟩
theorem cbRes4H : Statement .cbRes4H := ⟨rfl, rfl⟩
theorem cbRes4L : Statement .cbRes4L := ⟨rfl, rfl⟩
theorem cbRes4MemHl : Statement .cbRes4MemHl := ⟨rfl, rfl⟩
theorem cbRes4A : Statement .cbRes4A := ⟨rfl, rfl⟩
theorem cbRes5B : Statement .cbRes5B := ⟨rfl, rfl⟩
theorem cbRes5C : Statement .cbRes5C := ⟨rfl, rfl⟩
theorem cbRes5D : Statement .cbRes5D := ⟨rfl, rfl⟩
theorem cbRes5E : Statement .cbRes5E := ⟨rfl, rfl⟩
theorem cbRes5H : Statement .cbRes5H := ⟨rfl, rfl⟩
theorem cbRes5L : Statement .cbRes5L := ⟨rfl, rfl⟩
theorem cbRes5MemHl : Statement .cbRes5MemHl := ⟨rfl, rfl⟩
theorem cbRes5A : Statement .cbRes5A := ⟨rfl, rfl⟩
theorem cbRes6B : Statement .cbRes6B := ⟨rfl, rfl⟩
theorem cbRes6C : Statement .cbRes6C := ⟨rfl, rfl⟩
theorem cbRes6D : Statement .cbRes6D := ⟨rfl, rfl⟩
theorem cbRes6E : Statement .cbRes6E := ⟨rfl, rfl⟩
theorem cbRes6H : Statement .cbRes6H := ⟨rfl, rfl⟩
theorem cbRes6L : Statement .cbRes6L := ⟨rfl, rfl⟩
theorem cbRes6MemHl : Statement .cbRes6MemHl := ⟨rfl, rfl⟩
theorem cbRes6A : Statement .cbRes6A := ⟨rfl, rfl⟩
theorem cbRes7B : Statement .cbRes7B := ⟨rfl, rfl⟩
theorem cbRes7C : Statement .cbRes7C := ⟨rfl, rfl⟩
theorem cbRes7D : Statement .cbRes7D := ⟨rfl, rfl⟩
theorem cbRes7E : Statement .cbRes7E := ⟨rfl, rfl⟩
theorem cbRes7H : Statement .cbRes7H := ⟨rfl, rfl⟩
theorem cbRes7L : Statement .cbRes7L := ⟨rfl, rfl⟩
theorem cbRes7MemHl : Statement .cbRes7MemHl := ⟨rfl, rfl⟩
theorem cbRes7A : Statement .cbRes7A := ⟨rfl, rfl⟩
theorem cbSet0B : Statement .cbSet0B := ⟨rfl, rfl⟩
theorem cbSet0C : Statement .cbSet0C := ⟨rfl, rfl⟩
theorem cbSet0D : Statement .cbSet0D := ⟨rfl, rfl⟩
theorem cbSet0E : Statement .cbSet0E := ⟨rfl, rfl⟩
theorem cbSet0H : Statement .cbSet0H := ⟨rfl, rfl⟩
theorem cbSet0L : Statement .cbSet0L := ⟨rfl, rfl⟩
theorem cbSet0MemHl : Statement .cbSet0MemHl := ⟨rfl, rfl⟩
theorem cbSet0A : Statement .cbSet0A := ⟨rfl, rfl⟩
theorem cbSet1B : Statement .cbSet1B := ⟨rfl, rfl⟩
theorem cbSet1C : Statement .cbSet1C := ⟨rfl, rfl⟩
theorem cbSet1D : Statement .cbSet1D := ⟨rfl, rfl⟩
theorem cbSet1E : Statement .cbSet1E := ⟨rfl, rfl⟩
theorem cbSet1H : Statement .cbSet1H := ⟨rfl, rfl⟩
theorem cbSet1L : Statement .cbSet1L := ⟨rfl, rfl⟩
theorem cbSet1MemHl : Statement .cbSet1MemHl := ⟨rfl, rfl⟩
theorem cbSet1A : Statement .cbSet1A := ⟨rfl, rfl⟩
theorem cbSet2B : Statement .cbSet2B := ⟨rfl, rfl⟩
theorem cbSet2C : Statement .cbSet2C := ⟨rfl, rfl⟩
theorem cbSet2D : Statement .cbSet2D := ⟨rfl, rfl⟩
theorem cbSet2E : Statement .cbSet2E := ⟨rfl, rfl⟩
theorem cbSet2H : Statement .cbSet2H := ⟨rfl, rfl⟩
theorem cbSet2L : Statement .cbSet2L := ⟨rfl, rfl⟩
theorem cbSet2MemHl : Statement .cbSet2MemHl := ⟨rfl, rfl⟩
theorem cbSet2A : Statement .cbSet2A := ⟨rfl, rfl⟩
theorem cbSet3B : Statement .cbSet3B := ⟨rfl, rfl⟩
theorem cbSet3C : Statement .cbSet3C := ⟨rfl, rfl⟩
theorem cbSet3D : Statement .cbSet3D := ⟨rfl, rfl⟩
theorem cbSet3E : Statement .cbSet3E := ⟨rfl, rfl⟩
theorem cbSet3H : Statement .cbSet3H := ⟨rfl, rfl⟩
theorem cbSet3L : Statement .cbSet3L := ⟨rfl, rfl⟩
theorem cbSet3MemHl : Statement .cbSet3MemHl := ⟨rfl, rfl⟩
theorem cbSet3A : Statement .cbSet3A := ⟨rfl, rfl⟩
theorem cbSet4B : Statement .cbSet4B := ⟨rfl, rfl⟩
theorem cbSet4C : Statement .cbSet4C := ⟨rfl, rfl⟩
theorem cbSet4D : Statement .cbSet4D := ⟨rfl, rfl⟩
theorem cbSet4E : Statement .cbSet4E := ⟨rfl, rfl⟩
theorem cbSet4H : Statement .cbSet4H := ⟨rfl, rfl⟩
theorem cbSet4L : Statement .cbSet4L := ⟨rfl, rfl⟩
theorem cbSet4MemHl : Statement .cbSet4MemHl := ⟨rfl, rfl⟩
theorem cbSet4A : Statement .cbSet4A := ⟨rfl, rfl⟩
theorem cbSet5B : Statement .cbSet5B := ⟨rfl, rfl⟩
theorem cbSet5C : Statement .cbSet5C := ⟨rfl, rfl⟩
theorem cbSet5D : Statement .cbSet5D := ⟨rfl, rfl⟩
theorem cbSet5E : Statement .cbSet5E := ⟨rfl, rfl⟩
theorem cbSet5H : Statement .cbSet5H := ⟨rfl, rfl⟩
theorem cbSet5L : Statement .cbSet5L := ⟨rfl, rfl⟩
theorem cbSet5MemHl : Statement .cbSet5MemHl := ⟨rfl, rfl⟩
theorem cbSet5A : Statement .cbSet5A := ⟨rfl, rfl⟩
theorem cbSet6B : Statement .cbSet6B := ⟨rfl, rfl⟩
theorem cbSet6C : Statement .cbSet6C := ⟨rfl, rfl⟩
theorem cbSet6D : Statement .cbSet6D := ⟨rfl, rfl⟩
theorem cbSet6E : Statement .cbSet6E := ⟨rfl, rfl⟩
theorem cbSet6H : Statement .cbSet6H := ⟨rfl, rfl⟩
theorem cbSet6L : Statement .cbSet6L := ⟨rfl, rfl⟩
theorem cbSet6MemHl : Statement .cbSet6MemHl := ⟨rfl, rfl⟩
theorem cbSet6A : Statement .cbSet6A := ⟨rfl, rfl⟩
theorem cbSet7B : Statement .cbSet7B := ⟨rfl, rfl⟩
theorem cbSet7C : Statement .cbSet7C := ⟨rfl, rfl⟩
theorem cbSet7D : Statement .cbSet7D := ⟨rfl, rfl⟩
theorem cbSet7E : Statement .cbSet7E := ⟨rfl, rfl⟩
theorem cbSet7H : Statement .cbSet7H := ⟨rfl, rfl⟩
theorem cbSet7L : Statement .cbSet7L := ⟨rfl, rfl⟩
theorem cbSet7MemHl : Statement .cbSet7MemHl := ⟨rfl, rfl⟩
theorem cbSet7A : Statement .cbSet7A := ⟨rfl, rfl⟩

end Sys2Proof.Laws.EncodingForm
end

