-- ==== Sys2Proof/Laws/Session.lean ====
section
/-! SUPPORT. What construction can do: the external RAM it loads is a buffer of ERAM_SIZE bytes, and the session it answers
is the reset machine with the parameters and the controller. -/

namespace Sys2Proof.Machine

@[simp] theorem eramFromImage_none {size : Nat} : eramFromImage (none : Option (Vector Byte size)) = [] := rfl

@[simp] theorem eramFromImage_some {size : Nat} (image : Vector Byte size) :
    eramFromImage (some image) = cellsFrom 0 image.toList := rfl

/-- The external RAM at construction is in canonical form and has its size (20_memory.md rule R84). -/
theorem eramFromImage_buffer {size : Nat} (image : Option (Vector Byte size)) :
    Memory.buffer (eramFromImage image) size := by
  cases image with
  | none => exact ⟨⟨.nil, fun _ h => absurd h List.not_mem_nil⟩, fun _ h => absurd h List.not_mem_nil⟩
  | some image => simpa using cellsFrom_buffer image.toList

/-- Construction succeeds exactly where `CART_TYPE` selects a controller, with that controller
(70_reset_and_hazards.md rule R291). -/
theorem State.construct_cases {p : Params} {image : Option (Vector Byte p.eramSize)} {s : State}
    (h : State.construct p image = .ok s) :
    ∃ kind, controllerOf p.cartType = .ok kind ∧
      s = { State.reset with
            bus := { State.reset.bus with params := p, mbc := resetController kind (eramFromImage image) } } := by
  unfold State.construct at h
  split at h
  · cases h
  · next kind hk => exact ⟨kind, hk, (Except.ok.inj h).symm⟩

end Sys2Proof.Machine
end

