-- ==== Sys2Proof/Laws/Step.lean ====
section
/-! SUPPORT. What the shared operations and a step can do, said once: which bus they reach, what they do to the enable
bits, which outcome they have. -/

namespace Sys2Proof.Machine

/-! ### The bus an operation reaches -/

theorem State.read_reaches (s : State) (a : Word) : s.bus.Reaches (s.read a).2.bus := .read .refl a

theorem State.write_reaches (s : State) (a : Word) (v : Byte) : s.bus.Reaches (s.write a v).bus := .write .refl a v

theorem State.fetch8_reaches (s : State) : s.bus.Reaches s.fetch8.2.bus := .read .refl _

theorem State.fetch16_reaches (s : State) : s.bus.Reaches s.fetch16.2.bus :=
  s.fetch8_reaches.trans s.fetch8.2.fetch8_reaches

theorem State.push16_reaches (s : State) (v : Word) : s.bus.Reaches (s.push16 v).bus := .write (.write .refl _ _) _ _

theorem State.pop16_reaches (s : State) : s.bus.Reaches s.pop16.2.bus := .read (.read .refl _) _

theorem State.takeInterrupt_reaches (s : State) (n : Nat) (f : Byte) : s.bus.Reaches (s.takeInterrupt n f).bus :=
  .write (.write (.write .refl _ _) _ _) _ _

theorem State.interruptTest_reaches (s : State) : s.bus.Reaches s.interruptTest.2.2.bus := .read (.read .refl _) _

theorem State.readOpnd_reaches (s : State) (o : Opnd8) : s.bus.Reaches (s.readOpnd o).2.bus := by
  cases o
  · exact .refl
  · exact s.read_reaches _

theorem State.writeOpnd_reaches (s : State) (o : Opnd8) (v : Byte) : s.bus.Reaches (s.writeOpnd o v).bus := by
  cases o
  · exact .refl
  · exact s.write_reaches _ _

theorem State.readSrc_reaches (s : State) (x : AluSrc) : s.bus.Reaches (s.readSrc x).2.bus := by
  cases x
  · exact s.readOpnd_reaches _
  · exact .refl

theorem State.fetchInstr_reaches (s : State) : s.bus.Reaches s.fetchInstr.2.bus := by
  unfold State.fetchInstr
  simp only
  split
  · exact s.fetch8_reaches
  · exact s.fetch8_reaches.trans (State.fetch8_reaches _)
  · exact s.fetch8_reaches.trans (State.fetch16_reaches _)
  · exact s.fetch8_reaches.trans (State.fetch8_reaches _)

/-! ### The enable bits -/

/-- The registers of `t` keep the enable bits of `s`. -/
def Cpu.SameEnables (s t : Cpu) : Prop := t.ime = s.ime ∧ t.eiDelay = s.eiDelay

/-- A pending enable only while `IME` is false (10_state.md rule R18). -/
def Cpu.EnableSound (s : Cpu) : Prop := s.eiDelay = true → s.ime = false

theorem Cpu.SameEnables.sound {s t : Cpu} (h : s.SameEnables t) (hs : s.EnableSound) : t.EnableSound := by
  unfold Cpu.EnableSound; rw [h.1, h.2]; exact hs

/-- Fetching changes only the program counter. -/
theorem State.fetchInstr_cpu (s : State) : ∃ pc, s.fetchInstr.2.cpu = { s.cpu with pc := pc } := by
  unfold State.fetchInstr
  simp only
  split
  · exact ⟨_, rfl⟩
  · exact ⟨_, rfl⟩
  · exact ⟨_, rfl⟩
  · exact ⟨_, rfl⟩

theorem State.readOpnd_cpu (s : State) (o : Opnd8) : (s.readOpnd o).2.cpu = s.cpu := by cases o <;> rfl

theorem State.readSrc_cpu (s : State) (x : AluSrc) : (s.readSrc x).2.cpu = s.cpu := by
  cases x
  · exact s.readOpnd_cpu _
  · rfl

theorem State.writeOpnd_enables (s : State) (o : Opnd8) (v : Byte) : s.cpu.SameEnables (s.writeOpnd o v).cpu := by
  cases o
  · exact ⟨Cpu.setReg_ime .., Cpu.setReg_eiDelay ..⟩
  · exact ⟨rfl, rfl⟩

/-! ### Outcomes -/

/-- The outcome is a next state whose bus `s`'s bus reaches and whose enable bits are sound if those of `s` are. -/
def Good (s : State) (r : Result) : Prop :=
  ∃ t, r = .next t ∧ s.bus.Reaches t.bus ∧ (s.cpu.EnableSound → t.cpu.EnableSound)

theorem Good.of_same {s t : State} (hb : s.bus.Reaches t.bus) (hc : s.cpu.SameEnables t.cpu) : Good s (.next t) :=
  ⟨t, rfl, hb, hc.sound⟩

theorem Good.done {s t : State} {cpu : Cpu} {n : Nat} (hb : s.bus.Reaches t.bus) (hc : s.cpu.SameEnables cpu) :
    Good s (t.done cpu n) := Good.of_same hb hc

theorem Good.step {s t : State} {r : Result} (hb : s.bus.Reaches t.bus) (hc : s.cpu.SameEnables t.cpu)
    (h : Good t r) : Good s r := by
  obtain ⟨u, hu, hub, huc⟩ := h
  exact ⟨u, hu, hb.trans hub, fun hs => huc (hc.sound hs)⟩

theorem alu_good (op : AluOp) (src : AluSrc) (s : State) : Good s (alu op src s) := by
  refine Good.done (s.readSrc_reaches src) ?_
  rw [s.readSrc_cpu]
  split <;> exact ⟨rfl, rfl⟩

theorem inc8_good (o : Opnd8) (s : State) : Good s (inc8 o s) := by
  refine Good.done ((s.readOpnd_reaches o).trans (State.writeOpnd_reaches ..)) ?_
  have h := (s.readOpnd o).2.writeOpnd_enables o ((s.readOpnd o).1 + 1)
  rw [s.readOpnd_cpu] at h
  exact ⟨h.1, h.2⟩

theorem dec8_good (o : Opnd8) (s : State) : Good s (dec8 o s) := by
  refine Good.done ((s.readOpnd_reaches o).trans (State.writeOpnd_reaches ..)) ?_
  have h := (s.readOpnd o).2.writeOpnd_enables o ((s.readOpnd o).1 - 1)
  rw [s.readOpnd_cpu] at h
  exact ⟨h.1, h.2⟩

theorem shift_good (op : ShiftOp) (o : Opnd8) (s : State) : Good s (shift op o s) := by
  refine Good.done ((s.readOpnd_reaches o).trans (State.writeOpnd_reaches ..)) ?_
  have h := (s.readOpnd o).2.writeOpnd_enables o (shiftCompute op (s.readOpnd o).1 (s.readOpnd o).2.cpu.fC).1
  rw [s.readOpnd_cpu] at h ⊢
  exact ⟨h.1, h.2⟩

theorem bitTest_good (b : BitVec 3) (o : Opnd8) (s : State) : Good s (bitTest b o s) := by
  refine Good.done (s.readOpnd_reaches o) ?_
  rw [s.readOpnd_cpu]
  exact ⟨rfl, rfl⟩

theorem resBit_good (b : BitVec 3) (o : Opnd8) (s : State) : Good s (resBit b o s) := by
  refine Good.done ((s.readOpnd_reaches o).trans (State.writeOpnd_reaches ..)) ?_
  have h := (s.readOpnd o).2.writeOpnd_enables o ((s.readOpnd o).1 &&& ~~~bitMask b)
  rw [s.readOpnd_cpu] at h
  exact h

theorem setBit_good (b : BitVec 3) (o : Opnd8) (s : State) : Good s (setBit b o s) := by
  refine Good.done ((s.readOpnd_reaches o).trans (State.writeOpnd_reaches ..)) ?_
  have h := (s.readOpnd o).2.writeOpnd_enables o ((s.readOpnd o).1 ||| bitMask b)
  rw [s.readOpnd_cpu] at h
  exact h

theorem callTo_good (target : Word) (n : Nat) (s : State) : Good s (callTo target n s) :=
  Good.done (s.push16_reaches _) ⟨rfl, rfl⟩

theorem returnTo_good (n : Nat) (s : State) : Good s (returnTo n s) := Good.done s.pop16_reaches ⟨rfl, rfl⟩

theorem loadA_good (a : Word) (n : Nat) (s : State) : Good s (loadA a n s) := Good.done (s.read_reaches a) ⟨rfl, rfl⟩

theorem storeA_good (a : Word) (n : Nat) (s : State) : Good s (storeA a n s) :=
  Good.done (s.write_reaches a _) ⟨rfl, rfl⟩

theorem secondary_good (op2 : Byte) (s : State) : Good s (secondary op2 s) := by
  unfold secondary
  simp only
  split
  · exact shift_good ..
  · exact bitTest_good ..
  · exact resBit_good ..
  · exact setBit_good ..

/-- Every instruction but the unassigned ones has a next state, reached by reads and writes of the bus, with sound
enable bits. -/
theorem runForm_good (f : Form) (hf : ∀ op, f ≠ .unassigned op) (s : State) : Good s (runForm f s) := by
  cases f with
  | nop => exact Good.done .refl ⟨rfl, rfl⟩
  | halt => exact Good.done .refl ⟨rfl, rfl⟩
  | stop d8 => exact Good.done .refl ⟨rfl, rfl⟩
  | di => exact ⟨_, rfl, .refl, fun _ h => by cases h⟩
  | ei =>
    refine ⟨_, rfl, .refl, fun hs => ?_⟩
    cases h : s.cpu.ime
    · exact fun _ => by simp [h]
    · simpa [h] using hs
  | ldRegReg d r => exact Good.done .refl ⟨Cpu.setReg_ime .., Cpu.setReg_eiDelay ..⟩
  | ldRegImm r d8 => exact Good.done .refl ⟨Cpu.setReg_ime .., Cpu.setReg_eiDelay ..⟩
  | ldRegMem d => exact Good.done (s.read_reaches _) ⟨Cpu.setReg_ime .., Cpu.setReg_eiDelay ..⟩
  | ldMemReg r => exact Good.done (s.write_reaches _ _) ⟨rfl, rfl⟩
  | ldMemImm d8 => exact Good.done (s.write_reaches _ _) ⟨rfl, rfl⟩
  | ldAPtr p => exact Good.done (s.read_reaches _) ⟨Cpu.ptrAfter_ime .., Cpu.ptrAfter_eiDelay ..⟩
  | ldPtrA p => exact Good.done (s.write_reaches _ _) ⟨Cpu.ptrAfter_ime .., Cpu.ptrAfter_eiDelay ..⟩
  | ldAAbs a16 => exact loadA_good ..
  | ldAbsA a16 => exact storeA_good ..
  | ldhStore a8 => exact storeA_good ..
  | ldhLoad a8 => exact loadA_good ..
  | ldHighCA => exact storeA_good ..
  | ldAHighC => exact loadA_good ..
  | ldPairImm rr d16 => exact Good.done .refl ⟨Cpu.setPair_ime .., Cpu.setPair_eiDelay ..⟩
  | ldSpHl => exact Good.done .refl ⟨rfl, rfl⟩
  | ldAbsSp a16 => exact Good.done (.write (.write .refl _ _) _ _) ⟨rfl, rfl⟩
  | push qq => exact Good.done (s.push16_reaches _) ⟨rfl, rfl⟩
  | pop qq => exact Good.done s.pop16_reaches ⟨Cpu.setStackPair_ime .., Cpu.setStackPair_eiDelay ..⟩
  | ldHlSp r8 => exact Good.done .refl ⟨rfl, rfl⟩
  | alu op src => exact alu_good ..
  | inc8 o => exact inc8_good ..
  | dec8 o => exact dec8_good ..
  | daa => exact Good.done .refl ⟨rfl, rfl⟩
  | cpl => exact Good.done .refl ⟨rfl, rfl⟩
  | scf => exact Good.done .refl ⟨rfl, rfl⟩
  | ccf => exact Good.done .refl ⟨rfl, rfl⟩
  | addHl rr => exact Good.done .refl ⟨rfl, rfl⟩
  | inc16 rr => exact Good.done .refl ⟨Cpu.setPair_ime .., Cpu.setPair_eiDelay ..⟩
  | dec16 rr => exact Good.done .refl ⟨Cpu.setPair_ime .., Cpu.setPair_eiDelay ..⟩
  | addSp r8 => exact Good.done .refl ⟨rfl, rfl⟩
  | rotA op => exact Good.done .refl ⟨rfl, rfl⟩
  | shift op o => exact shift_good ..
  | bit b o => exact bitTest_good ..
  | res b o => exact resBit_good ..
  | set b o => exact setBit_good ..
  | jp a16 => exact Good.done .refl ⟨rfl, rfl⟩
  | jpCc cc a16 =>
    simp only [runForm, jpCc]
    split <;> exact Good.done .refl ⟨rfl, rfl⟩
  | jr r8 => exact Good.done .refl ⟨rfl, rfl⟩
  | jrCc cc r8 =>
    simp only [runForm, jrCc]
    split <;> exact Good.done .refl ⟨rfl, rfl⟩
  | jpHl => exact Good.done .refl ⟨rfl, rfl⟩
  | call a16 => exact callTo_good ..
  | callCc cc a16 =>
    simp only [runForm, callCc]
    split
    · exact callTo_good ..
    · exact Good.done .refl ⟨rfl, rfl⟩
  | rst t => exact callTo_good ..
  | ret => exact returnTo_good ..
  | retCc cc =>
    simp only [runForm, retCc]
    split
    · exact returnTo_good ..
    · exact Good.done .refl ⟨rfl, rfl⟩
  | reti => exact ⟨_, rfl, s.pop16_reaches, fun _ h => by cases h⟩
  | escape => exact Good.step s.fetch8_reaches ⟨rfl, rfl⟩ (secondary_good ..)
  | unassigned op => exact absurd rfl (hf op)

/-- What a step can do before it executes an instruction. -/
theorem State.beginStep_cases (s : State) :
    (∃ t, s.beginStep = .inl t ∧ s.bus.Reaches t.bus ∧ (s.cpu.EnableSound → t.cpu.EnableSound)) ∨
    (∃ t, s.beginStep = .inr t ∧ s.bus.Reaches t.bus ∧ t.cpu = { s.cpu with run := .running } ∧ t.cost = s.cost) := by
  have hb := s.interruptTest_reaches
  have hc := s.interruptTest_cpu
  have hn := s.interruptTest_cost
  unfold State.beginStep
  revert hb hc hn
  generalize s.interruptTest = r
  intro hb hc hn
  simp only
  split
  · exact .inl ⟨_, rfl, hb, fun h => by simpa only [hc] using h⟩
  · split
    · refine .inl ⟨_, rfl, ?_, fun _ _ => ?_⟩
      · exact hb.trans (State.takeInterrupt_reaches { r.2.2 with cpu := { r.2.2.cpu with run := .running } } _ _)
      · rw [State.takeInterrupt_cpu]
    · refine .inr ⟨_, rfl, hb, ?_, hn⟩
      simp only [hc]

theorem State.settleEnable_sound {s : State} (arm : Bool) (h : s.cpu.EnableSound) :
    (s.settleEnable arm).cpu.EnableSound := by
  unfold State.settleEnable
  split
  · exact fun h => by cases h
  · exact h

/-- What a step can do: a next state whose bus is reached by reads and writes of the bus and whose enable bits are
sound if they were, or the fault of an unassigned opcode. -/
theorem step_cases (s : State) :
    Good s (step s) ∨ ∃ (op : Byte) (t : State), s.bus.Reaches t.bus ∧ t.fetchInstr.1.form = .unassigned op ∧
      step s = .fault (.illegalOpcode op (t.fetchInstr.2.cpu.pc - 1)) := by
  rcases s.beginStep_cases with ⟨t, ht, hb, hc⟩ | ⟨t, ht, hb, hc, _⟩
  · exact .inl ⟨t, by simp [step, ht], hb, hc⟩
  · obtain ⟨pc, hpc⟩ := t.fetchInstr_cpu
    by_cases hf : ∃ op, t.fetchInstr.1.form = .unassigned op
    · obtain ⟨op, hop⟩ := hf
      refine .inr ⟨op, t, hb, hop, ?_⟩
      simp only [step, ht, exec_of_form hop]
      rfl
    · obtain ⟨u, hu, hub, huc⟩ := runForm_good t.fetchInstr.1.form (fun op h => hf ⟨op, h⟩) t.fetchInstr.2
      refine .inl ⟨u.settleEnable t.cpu.eiDelay, ?_, ?_, fun hs => ?_⟩
      · simp only [step, ht, exec_eq_runForm, hu]
      · rw [State.settleEnable_bus]
        exact hb.trans (t.fetchInstr_reaches.trans hub)
      · refine State.settleEnable_sound _ (huc ?_)
        rw [hpc, hc]
        exact hs

end Sys2Proof.Machine
end

