-- ==== Sys2Proof/Tests/Slice0.lean ====
section
/-! SUPPORT. The model's own tests: decode words written out from the encodings of 30_encoding.md, single steps taken from
the vectors of 95_test_vectors.md, and a witness for every statement that has hypotheses. -/

namespace Sys2Proof.Tests

open Sys2Proof Sys2Proof.Machine

/-! ### Well-formedness: one ill-formed term for each check (30_encoding.md rules R104, R105) -/

theorem test_wellformed_escape : Instr.wellFormed .prefixCb = false := by decide

theorem test_wellformed_unassigned : Instr.wellFormed .illegalD3 = false ∧ Instr.wellFormed .illegalFD = false := by
  decide

theorem test_wellformed_accepts : Instr.wellFormed .nop = true ∧ Instr.wellFormed (.stop 0x55) = true := by decide

/-! ### Decoding: words written out bit by bit from the encoding lines of the rules -/

theorem test_decode_control_bits :
    decode [0b00000000] = .ok (.nop, []) ∧ decode [0b01110110] = .ok (.halt, []) ∧
    decode [0b00010000, 0x55] = .ok (.stop 0x55, []) ∧ decode [0b11110011] = .ok (.di, []) ∧
    decode [0b11111011] = .ok (.ei, []) := by decide

theorem test_decode_load8 :
    decode [0b01_010_101] = .ok (.ldDL, []) ∧ decode [0b00_001_110, 0x9C] = .ok (.ldCD8 0x9C, []) ∧
    decode [0b01_011_110] = .ok (.ldEMemHl, []) ∧ decode [0b01110_001] = .ok (.ldMemHlC, []) ∧
    decode [0b00_01_1010] = .ok (.ldAMemDe, []) ∧ decode [0b00_00_0010] = .ok (.ldMemBcA, []) := by decide

theorem test_decode_load8_moving_and_high :
    decode [0b00_10_1010] = .ok (.ldAMemHlInc, []) ∧ decode [0b00_11_0010] = .ok (.ldMemHlDecA, []) ∧
    decode [0xFA, 0x23, 0xD1] = .ok (.ldAMemA16 0xD123, []) ∧ decode [0xEA, 0x23, 0xD1] = .ok (.ldMemA16A 0xD123, []) ∧
    decode [0xE0, 0x44] = .ok (.ldhMemA8A 0x44, []) ∧ decode [0xF0, 0x44] = .ok (.ldhAMemA8 0x44, []) ∧
    decode [0xE2] = .ok (.ldMemCA, []) ∧ decode [0xF2] = .ok (.ldAMemC, []) := by decide

theorem test_decode_load16 :
    decode [0b00_01_0001, 0x34, 0x12] = .ok (.ldDeD16 0x1234, []) ∧ decode [0xF9] = .ok (.ldSpHl, []) ∧
    decode [0x08, 0x34, 0x12] = .ok (.ldMemA16Sp 0x1234, []) ∧ decode [0b11_11_0101] = .ok (.pushAf, []) ∧
    decode [0b11_10_0001] = .ok (.popHl, []) ∧ decode [0xF8, 0xFE] = .ok (.ldHlSpR8 0xFE, []) := by decide

theorem test_decode_alu8 :
    decode [0b10_000_111] = .ok (.addAA, []) ∧ decode [0b10_001_110] = .ok (.adcAMemHl, []) ∧
    decode [0b10_111_010] = .ok (.cpD, []) ∧ decode [0b11_101_110, 0x0F] = .ok (.xorD8 0x0F, []) ∧
    decode [0b00_110_100] = .ok (.incMemHl, []) ∧ decode [0b00_101_101] = .ok (.decL, []) ∧
    decode [0x27] = .ok (.daa, []) ∧ decode [0x2F] = .ok (.cplA, []) ∧ decode [0x37] = .ok (.scf, []) ∧
    decode [0x3F] = .ok (.ccf, []) := by decide

theorem test_decode_alu16 :
    decode [0b00_01_1001] = .ok (.addHlDe, []) ∧ decode [0b00_11_0011] = .ok (.incSp, []) ∧
    decode [0b00_00_1011] = .ok (.decBc, []) ∧ decode [0xE8, 0x02] = .ok (.addSpR8 0x02, []) := by decide

theorem test_decode_rotate_shift_bit :
    decode [0b000_00_111] = .ok (.rlca, []) ∧ decode [0b000_11_111] = .ok (.rra, []) ∧
    decode [0xCB, 0b00_101_110] = .ok (.cbSraMemHl, []) ∧ decode [0xCB, 0b00_110_111] = .ok (.cbSwapA, []) ∧
    decode [0xCB, 0b10_011_110] = .ok (.cbRes3MemHl, []) ∧ decode [0xCB, 0b11_000_000] = .ok (.cbSet0B, []) := by decide

theorem test_decode_control_transfer :
    decode [0xC3, 0x34, 0x12] = .ok (.jpA16 0x1234, []) ∧ decode [0b110_11_010, 0x34, 0x12] = .ok (.jpCA16 0x1234, []) ∧
    decode [0x18, 0xFE] = .ok (.jrR8 0xFE, []) ∧ decode [0b001_10_000, 0xFD] = .ok (.jrNcR8 0xFD, []) ∧
    decode [0xE9] = .ok (.jpHl, []) ∧ decode [0xCD, 0x00, 0xC2] = .ok (.callA16 0xC200, []) ∧
    decode [0b11_000_111] = .ok (.rst00, []) ∧ decode [0xC9] = .ok (.ret, []) ∧
    decode [0b110_00_000] = .ok (.retNz, []) ∧ decode [0xD9] = .ok (.reti, []) := by decide

theorem test_decode_unassigned_and_short :
    decode [0xE3] = .ok (.illegalE3, []) ∧ decode [0xCB] = .ok (.prefixCb, []) ∧ decode [] = .error .noBytes ∧
    decode [0xC3, 0x34] = .error (.truncated 0xC3) := by decide

/-- The table's numbering: a one-byte row, a row with no operand bits, a secondary row (log entry 9). -/
theorem test_decode_table_word :
    decodeTableWord 8 0x47 = some .ldBA ∧ decodeTableWord 8 0x01 = some (.ldBcD16 0x0000) ∧
    decodeTableWord 16 0xCB90 = some .cbRes2B ∧ decodeTableWord 8 0xCB = some .prefixCb := by decide

/-! ### Single steps (95_test_vectors.md section 2)

`Runs bytes cpu cells cpu' cells' cost` says that the step from the default start state of 95_test_vectors.md section 0,
with the registers changed by `cpu`, the bytes of the instruction placed at the program counter and the bytes of `cells`
in memory, gives the state with the registers changed by `cpu'` and the bytes of `cells'` in memory, at that cost. -/

/-- Bytes stored into the storage behind their addresses. -/
def poke (b : Bus) (cells : List (Word × Byte)) : Bus := cells.foldl (fun b c => b.rawWrite c.1 c.2) b

/-- A byte sequence as cells from an address on. -/
def place : Word → List Byte → List (Word × Byte)
  | _, [] => []
  | a, v :: rest => (a, v) :: place (a + 1) rest

/-- The start state of a vector. -/
def start (bytes : List Byte) (cpu : Cpu → Cpu := id) (cells : List (Word × Byte) := []) : State :=
  let regs := cpu { Cpu.noBoot with pc := 0xC000 }
  { cpu := regs, bus := poke State.reset.noBoot.bus (place regs.pc bytes ++ cells), cost := 0 }

/-- The outcome is this next state. -/
def gives (r : Result) (t : State) : Bool :=
  match r with
  | .next u => u == t
  | .fault _ => false
  | .refused _ => false

/-- The outcome is a next state. -/
def proceeds (r : Result) : Bool :=
  match r with
  | .next _ => true
  | .fault _ => false
  | .refused _ => false

theorem proceeds_next {r : Result} (h : proceeds r = true) : ∃ t, r = .next t := by
  cases r with
  | next t => exact ⟨t, rfl⟩
  | fault _ => cases h
  | refused _ => cases h

/-- The outcome is this fault. -/
def stops (r : Result) (f : Fault) : Bool :=
  match r with
  | .next _ => false
  | .fault g => g == f
  | .refused _ => false

/-- One vector of 95_test_vectors.md section 2. -/
abbrev Runs (bytes : List Byte) (cpu : Cpu → Cpu) (cells : List (Word × Byte)) (cpu' : Cpu → Cpu)
    (cells' : List (Word × Byte)) (cost : Nat) : Prop :=
  let s := start bytes cpu cells
  gives (step s) { cpu := cpu' s.cpu, bus := poke s.bus cells', cost := cost } = true

theorem test_vector_L3 : Runs [0x7F] id [] (fun s => { s with pc := 0xC001 }) [] 4 := by decide
theorem test_vector_L4 : Runs [0x1E, 0x9C] id [] (fun s => { s with e := 0x9C, pc := 0xC002 }) [] 8 := by decide
theorem test_vector_L5 :
    Runs [0x56] (fun s => { s with h := 0xC1, l := 0x00 }) [(0xC100, 0x5A)]
      (fun s => { s with d := 0x5A, pc := 0xC001 }) [] 8 := by decide
theorem test_vector_L7 :
    Runs [0x70] (fun s => { s with h := 0xC1, l := 0x00, b := 0x77 }) []
      (fun s => { s with pc := 0xC001 }) [(0xC100, 0x77)] 8 := by decide
theorem test_vector_L8 :
    Runs [0x75] (fun s => { s with h := 0xE1, l := 0x34 }) []
      (fun s => { s with pc := 0xC001 }) [(0xC134, 0x34)] 8 := by decide
theorem test_vector_L9 :
    Runs [0x36, 0xAB] (fun s => { s with h := 0xFF, l := 0x80 }) []
      (fun s => { s with pc := 0xC002 }) [(0xFF80, 0xAB)] 12 := by decide +kernel
theorem test_vector_L11 :
    Runs [0x1A] (fun s => { s with d := 0xC2, e := 0x01 }) [(0xC201, 0x22)]
      (fun s => { s with a := 0x22, pc := 0xC001 }) [] 8 := by decide
theorem test_vector_L12 :
    Runs [0x02] (fun s => { s with b := 0x80, c := 0x00, a := 0x3C }) []
      (fun s => { s with pc := 0xC001 }) [(0x8000, 0x3C)] 8 := by decide
theorem test_vector_L14 :
    Runs [0xFA, 0x23, 0xD1] id [(0xD123, 0x99)]
      (fun s => { s with a := 0x99, pc := 0xC003 }) [] 16 := by decide
theorem test_vector_L15 :
    Runs [0xEA, 0xFF, 0xDF] (fun s => { s with a := 0x42 }) []
      (fun s => { s with pc := 0xC003 }) [(0xDFFF, 0x42)] 16 := by decide
theorem test_vector_L16 :
    Runs [0xEA, 0xFF, 0xFD] (fun s => { s with a := 0x42 }) []
      (fun s => { s with pc := 0xC003 }) [(0xDDFF, 0x42)] 16 := by decide
theorem test_vector_L18 :
    Runs [0xE0, 0xFF] (fun s => { s with a := 0x5C }) []
      (fun s => { s with pc := 0xC002 }) [(0xFFFF, 0x5C)] 12 := by decide
theorem test_vector_L19 :
    Runs [0xF0, 0x0F] id [(0xFF0F, 0xE3)]
      (fun s => { s with a := 0xE3, pc := 0xC002 }) [] 12 := by decide
theorem test_vector_L20 :
    Runs [0xE2] (fun s => { s with c := 0x81, a := 0x6D }) []
      (fun s => { s with pc := 0xC001 }) [(0xFF81, 0x6D)] 8 := by decide
theorem test_vector_L22 :
    Runs [0x22] (fun s => { s with h := 0xC1, l := 0xFF, a := 0x10 }) []
      (fun s => { s with h := 0xC2, l := 0x00, pc := 0xC001 }) [(0xC1FF, 0x10)] 8 := by decide
theorem test_vector_L23 :
    Runs [0x32] (fun s => { s with h := 0xC2, l := 0x00, a := 0x10 }) []
      (fun s => { s with h := 0xC1, l := 0xFF, pc := 0xC001 }) [(0xC200, 0x10)] 8 := by decide
theorem test_vector_L24 :
    Runs [0x2A] (fun s => { s with h := 0xFF, l := 0xFF }) [(0xFFFF, 0x1F)]
      (fun s => { s with a := 0x1F, h := 0x00, l := 0x00, pc := 0xC001 }) [] 8 := by decide
theorem test_vector_L25 :
    Runs [0x3A] (fun s => { s with h := 0x00, l := 0x00 }) []
      (fun s => { s with a := 0xFF, h := 0xFF, l := 0xFF, pc := 0xC001 }) [] 8 := by decide
theorem test_vector_S1 :
    Runs [0x01, 0x34, 0x12] id []
      (fun s => { s with b := 0x12, c := 0x34, pc := 0xC003 }) [] 12 := by decide
theorem test_vector_S2 :
    Runs [0x31, 0x00, 0xD0] id []
      (fun s => { s with sp := 0xD000, pc := 0xC003 }) [] 12 := by decide
theorem test_vector_S4 :
    Runs [0x08, 0x00, 0xC1] (fun s => { s with sp := 0xFFF8 }) []
      (fun s => { s with pc := 0xC003 }) [(0xC100, 0xF8), (0xC101, 0xFF)] 20 := by decide
theorem test_vector_S5 :
    Runs [0xC5] (fun s => { s with b := 0x12, c := 0xA5 }) []
      (fun s => { s with sp := 0xFFFC, pc := 0xC001 }) [(0xFFFC, 0xA5), (0xFFFD, 0x12)] 16 := by decide
theorem test_vector_S6 :
    Runs [0xF5] (fun s => { s.setF 0xA0 with a := 0x9E }) []
      (fun s => { s with sp := 0xFFFC, pc := 0xC001 }) [(0xFFFC, 0xA0), (0xFFFD, 0x9E)] 16 := by decide
theorem test_vector_S7 :
    Runs [0xF1] (fun s => { s with sp := 0xC100 }) [(0xC100, 0xFF), (0xC101, 0x3D)]
      (fun s => { s.setF 0xF0 with a := 0x3D, sp := 0xC102, pc := 0xC001 }) [] 12 := by decide
theorem test_vector_S8 :
    Runs [0xD1] (fun s => { s with sp := 0xC100 }) [(0xC100, 0xCD), (0xC101, 0xAB)]
      (fun s => { s with d := 0xAB, e := 0xCD, sp := 0xC102, pc := 0xC001 }) [] 12 := by decide
theorem test_vector_S10 :
    Runs [0xC5] (fun s => { s with sp := 0x0001, b := 0x12, c := 0x34 }) []
      (fun s => { s with sp := 0xFFFF, pc := 0xC001 }) [(0xFFFF, 0x34)] 16 := by decide
theorem test_vector_S11 :
    Runs [0xF8, 0x08] (fun s => { s with sp := 0xFFF8 }) []
      (fun s => { s.setF 0x30 with h := 0x00, l := 0x00, pc := 0xC002 }) [] 12 := by decide
theorem test_vector_S12 :
    Runs [0xF8, 0xFF] (fun s => { s with sp := 0xD000 }) []
      (fun s => { s.setF 0x00 with h := 0xCF, l := 0xFF, pc := 0xC002 }) [] 12 := by decide
theorem test_vector_S13 :
    Runs [0xF8, 0xFF] (fun s => { s with sp := 0xD001 }) []
      (fun s => { s.setF 0x30 with h := 0xD0, l := 0x00, pc := 0xC002 }) [] 12 := by decide
theorem test_vector_A1 :
    Runs [0x80] (fun s => { s with a := 0x3A, b := 0xC6 }) []
      (fun s => { s.setF 0xB0 with a := 0x00, pc := 0xC001 }) [] 4 := by decide
theorem test_vector_A2 :
    Runs [0x81] (fun s => { s.setF 0xF0 with a := 0x0F, c := 0x01 }) []
      (fun s => { s.setF 0x20 with a := 0x10, pc := 0xC001 }) [] 4 := by decide
theorem test_vector_A5 :
    Runs [0x8B] (fun s => { s with a := 0xE1, e := 0x0F, fC := true }) []
      (fun s => { s.setF 0x20 with a := 0xF1, pc := 0xC001 }) [] 4 := by decide
theorem test_vector_A7 :
    Runs [0xCE, 0xF0] (fun s => { s with a := 0x0F, fC := true }) []
      (fun s => { s.setF 0xB0 with a := 0x00, pc := 0xC002 }) [] 8 := by decide
theorem test_vector_A9 :
    Runs [0xD6, 0x0F] (fun s => { s with a := 0x3E }) []
      (fun s => { s.setF 0x60 with a := 0x2F, pc := 0xC002 }) [] 8 := by decide
theorem test_vector_A11 :
    Runs [0x9C] (fun s => { s with a := 0x3B, h := 0x2A, fC := true }) []
      (fun s => { s.setF 0x40 with a := 0x10, pc := 0xC001 }) [] 4 := by decide
theorem test_vector_A13 :
    Runs [0xDE, 0x0F] (fun s => { s with a := 0x10, fC := true }) []
      (fun s => { s.setF 0xE0 with a := 0x00, pc := 0xC002 }) [] 8 := by decide
theorem test_vector_A15 :
    Runs [0xE6, 0xA5] (fun s => { s with a := 0x5A }) []
      (fun s => { s.setF 0xA0 with a := 0x00, pc := 0xC002 }) [] 8 := by decide
theorem test_vector_A16 :
    Runs [0xAF] (fun s => { s with a := 0xFF }) []
      (fun s => { s.setF 0x80 with a := 0x00, pc := 0xC001 }) [] 4 := by decide
theorem test_vector_A18 :
    Runs [0xB0] (fun s => { s with a := 0x00, b := 0x00 }) []
      (fun s => { s.setF 0x80 with pc := 0xC001 }) [] 4 := by decide
theorem test_vector_A20 :
    Runs [0xB8] (fun s => { s with a := 0x3C, b := 0x2F }) []
      (fun s => { s.setF 0x60 with pc := 0xC001 }) [] 4 := by decide
theorem test_vector_A21 :
    Runs [0xFE, 0x3C] (fun s => { s with a := 0x3C }) []
      (fun s => { s.setF 0xC0 with pc := 0xC002 }) [] 8 := by decide
theorem test_vector_A23 :
    Runs [0x04] (fun s => { s.setF 0x10 with b := 0x0F }) []
      (fun s => { s.setF 0x30 with b := 0x10, pc := 0xC001 }) [] 4 := by decide
theorem test_vector_A24 :
    Runs [0x3C] (fun s => { s.setF 0x00 with a := 0xFF }) []
      (fun s => { s.setF 0xA0 with a := 0x00, pc := 0xC001 }) [] 4 := by decide
theorem test_vector_A26 :
    Runs [0x0D] (fun s => { s.setF 0x10 with c := 0x01 }) []
      (fun s => { s.setF 0xD0 with c := 0x00, pc := 0xC001 }) [] 4 := by decide
theorem test_vector_A27 :
    Runs [0x15] (fun s => { s.setF 0x00 with d := 0x00 }) []
      (fun s => { s.setF 0x60 with d := 0xFF, pc := 0xC001 }) [] 4 := by decide
theorem test_vector_A30 :
    Runs [0x27] (fun s => { s.setF 0x00 with a := 0x7D }) []
      (fun s => { s.setF 0x00 with a := 0x83, pc := 0xC001 }) [] 4 := by decide
theorem test_vector_A31 :
    Runs [0x27] (fun s => { s.setF 0x00 with a := 0x9A }) []
      (fun s => { s.setF 0x90 with a := 0x00, pc := 0xC001 }) [] 4 := by decide
theorem test_vector_A33 :
    Runs [0x27] (fun s => { s.setF 0x60 with a := 0x4B }) []
      (fun s => { s.setF 0x40 with a := 0x45, pc := 0xC001 }) [] 4 := by decide
theorem test_vector_A34 :
    Runs [0x27] (fun s => { s.setF 0x50 with a := 0xFA }) []
      (fun s => { s.setF 0x50 with a := 0x9A, pc := 0xC001 }) [] 4 := by decide
theorem test_vector_A35 :
    Runs [0x2F] (fun s => { s.setF 0x90 with a := 0x35 }) []
      (fun s => { s.setF 0xF0 with a := 0xCA, pc := 0xC001 }) [] 4 := by decide
theorem test_vector_A36 :
    Runs [0x37] (fun s => s.setF 0xE0) []
      (fun s => { s.setF 0x90 with pc := 0xC001 }) [] 4 := by decide
theorem test_vector_A37 :
    Runs [0x3F] (fun s => s.setF 0xF0) []
      (fun s => { s.setF 0x80 with pc := 0xC001 }) [] 4 := by decide
theorem test_vector_W1 :
    Runs [0x09] (fun s => { s.setF 0x80 with h := 0x8A, l := 0x23, b := 0x06, c := 0x05 }) []
      (fun s => { s.setF 0x80 with h := 0x90, l := 0x28, pc := 0xC001 }) [] 8 := by decide
theorem test_vector_W3 :
    Runs [0x19] (fun s => { s.setF 0x40 with h := 0x00, l := 0xFF, d := 0x00, e := 0x01 }) []
      (fun s => { s.setF 0x20 with h := 0x01, l := 0x00, pc := 0xC001 }) [] 8 := by decide
theorem test_vector_W7 :
    Runs [0x39] (fun s => { s.setF 0x80 with h := 0xFF, l := 0xFF, sp := 0x0001 }) []
      (fun s => { s.setF 0xB0 with h := 0x00, l := 0x00, pc := 0xC001 }) [] 8 := by decide
theorem test_vector_W8 :
    Runs [0x03] (fun s => { s.setF 0xF0 with b := 0xFF, c := 0xFF }) []
      (fun s => { s.setF 0xF0 with b := 0x00, c := 0x00, pc := 0xC001 }) [] 8 := by decide
theorem test_vector_W10 :
    Runs [0x1B] (fun s => { s.setF 0x00 with d := 0x00, e := 0x00 }) []
      (fun s => { s.setF 0x00 with d := 0xFF, e := 0xFF, pc := 0xC001 }) [] 8 := by decide
theorem test_vector_W12 :
    Runs [0xE8, 0x02] (fun s => { s.setF 0xF0 with sp := 0xFFF8 }) []
      (fun s => { s.setF 0x00 with sp := 0xFFFA, pc := 0xC002 }) [] 16 := by decide
theorem test_vector_W14 :
    Runs [0xE8, 0xFF] (fun s => { s with sp := 0x0000 }) []
      (fun s => { s.setF 0x00 with sp := 0xFFFF, pc := 0xC002 }) [] 16 := by decide
theorem test_vector_B1 :
    Runs [0x07] (fun s => { s.setF 0xE0 with a := 0x85 }) []
      (fun s => { s.setF 0x10 with a := 0x0B, pc := 0xC001 }) [] 4 := by decide
theorem test_vector_B3 :
    Runs [0x0F] (fun s => { s.setF 0x00 with a := 0x3B }) []
      (fun s => { s.setF 0x10 with a := 0x9D, pc := 0xC001 }) [] 4 := by decide
theorem test_vector_B5 :
    Runs [0x1F] (fun s => { s with a := 0x81, fC := false }) []
      (fun s => { s.setF 0x10 with a := 0x40, pc := 0xC001 }) [] 4 := by decide
theorem test_vector_B6 :
    Runs [0x17] (fun s => { s with a := 0x80, fC := false }) []
      (fun s => { s.setF 0x10 with a := 0x00, pc := 0xC001 }) [] 4 := by decide
theorem test_vector_B7 :
    Runs [0xCB, 0x00] (fun s => { s with b := 0x85 }) []
      (fun s => { s.setF 0x10 with b := 0x0B, pc := 0xC002 }) [] 8 := by decide
theorem test_vector_B8 :
    Runs [0xCB, 0x06] (fun s => { s with h := 0xC1, l := 0x00 }) [(0xC100, 0x00)]
      (fun s => { s.setF 0x80 with pc := 0xC002 }) [] 16 := by decide +kernel
theorem test_vector_B10 :
    Runs [0xCB, 0x15] (fun s => { s with l := 0x80, fC := false }) []
      (fun s => { s.setF 0x90 with l := 0x00, pc := 0xC002 }) [] 8 := by decide
theorem test_vector_B11 :
    Runs [0xCB, 0x16] (fun s => { s with h := 0xC1, l := 0x00, fC := true }) [(0xC100, 0x11)]
      (fun s => { s.setF 0x00 with pc := 0xC002 }) [(0xC100, 0x23)] 16 := by decide
theorem test_vector_B13 :
    Runs [0xCB, 0x1E] (fun s => { s with h := 0xC1, l := 0x00, fC := true }) [(0xC100, 0x8A)]
      (fun s => { s.setF 0x00 with pc := 0xC002 }) [(0xC100, 0xC5)] 16 := by decide
theorem test_vector_B15 :
    Runs [0xCB, 0x26] (fun s => { s with h := 0xC1, l := 0x00 }) [(0xC100, 0xFF)]
      (fun s => { s.setF 0x10 with pc := 0xC002 }) [(0xC100, 0xFE)] 16 := by decide
theorem test_vector_B16 :
    Runs [0xCB, 0x2F] (fun s => { s with a := 0x8A }) []
      (fun s => { s.setF 0x00 with a := 0xC5, pc := 0xC002 }) [] 8 := by decide
theorem test_vector_B18 :
    Runs [0xCB, 0x37] (fun s => { s.setF 0xF0 with a := 0xF1 }) []
      (fun s => { s.setF 0x00 with a := 0x1F, pc := 0xC002 }) [] 8 := by decide
theorem test_vector_B19 :
    Runs [0xCB, 0x36] (fun s => { s with h := 0xC1, l := 0x00 }) [(0xC100, 0x00)]
      (fun s => { s.setF 0x80 with pc := 0xC002 }) [] 16 := by decide +kernel
theorem test_vector_B21 :
    Runs [0xCB, 0x3E] (fun s => { s with h := 0xC1, l := 0x00 }) [(0xC100, 0xFF)]
      (fun s => { s.setF 0x10 with pc := 0xC002 }) [(0xC100, 0x7F)] 16 := by decide
theorem test_vector_B23 :
    Runs [0xCB, 0x65] (fun s => { s.setF 0x00 with l := 0xEF }) []
      (fun s => { s.setF 0xA0 with pc := 0xC002 }) [] 8 := by decide
theorem test_vector_B24 :
    Runs [0xCB, 0x46] (fun s => { s.setF 0x50 with h := 0xC1, l := 0x00 }) [(0xC100, 0xFE)]
      (fun s => { s.setF 0xB0 with pc := 0xC002 }) [] 12 := by decide
theorem test_vector_B25 :
    Runs [0xCB, 0xBF] (fun s => { s.setF 0xF0 with a := 0xFF }) []
      (fun s => { s.setF 0xF0 with a := 0x7F, pc := 0xC002 }) [] 8 := by decide
theorem test_vector_B26 :
    Runs [0xCB, 0x9E] (fun s => { s with h := 0xC1, l := 0x00 }) [(0xC100, 0xFF)]
      (fun s => { s with pc := 0xC002 }) [(0xC100, 0xF7)] 16 := by decide
theorem test_vector_B28 :
    Runs [0xCB, 0xFE] (fun s => { s with h := 0xC1, l := 0x00 }) [(0xC100, 0x00)]
      (fun s => { s with pc := 0xC002 }) [(0xC100, 0x80)] 16 := by decide
theorem test_vector_J1 : Runs [0xC3, 0x34, 0x12] id [] (fun s => { s with pc := 0x1234 }) [] 16 := by decide
theorem test_vector_J3 :
    Runs [0xC2, 0x00, 0xC2] (fun s => { s with fZ := true }) []
      (fun s => { s with pc := 0xC003 }) [] 12 := by decide
theorem test_vector_J4 :
    Runs [0xDA, 0x00, 0xC2] (fun s => { s with fC := true }) []
      (fun s => { s with pc := 0xC200 }) [] 16 := by decide
theorem test_vector_J7 : Runs [0x18, 0x80] id [] (fun s => { s with pc := 0xBF82 }) [] 12 := by decide
theorem test_vector_J9 :
    Runs [0x28, 0x7F] (fun s => { s with fZ := false }) []
      (fun s => { s with pc := 0xC002 }) [] 8 := by decide
theorem test_vector_J11 :
    Runs [0xE9] (fun s => { s with h := 0xD0, l := 0x00 }) []
      (fun s => { s with pc := 0xD000 }) [] 4 := by decide
theorem test_vector_J12 :
    Runs [0xCD, 0x00, 0xC2] (fun s => { s with sp := 0xFFFE }) []
      (fun s => { s with sp := 0xFFFC, pc := 0xC200 }) [(0xFFFC, 0x03), (0xFFFD, 0xC0)] 24 := by decide
theorem test_vector_J13 :
    Runs [0xDC, 0x00, 0xC2] (fun s => { s with fC := false }) []
      (fun s => { s with pc := 0xC003 }) [] 12 := by decide
theorem test_vector_J14 :
    Runs [0xCC, 0x00, 0xC2] (fun s => { s with fZ := true }) []
      (fun s => { s with sp := 0xFFFC, pc := 0xC200 }) [(0xFFFC, 0x03), (0xFFFD, 0xC0)] 24 := by decide
theorem test_vector_J15 :
    Runs [0xEF] id []
      (fun s => { s with sp := 0xFFFC, pc := 0x0028 }) [(0xFFFC, 0x01), (0xFFFD, 0xC0)] 16 := by decide
theorem test_vector_J17 :
    Runs [0xC9] (fun s => { s with sp := 0xC100 }) [(0xC100, 0x03), (0xC101, 0xC2)]
      (fun s => { s with sp := 0xC102, pc := 0xC203 }) [] 16 := by decide
theorem test_vector_J18 :
    Runs [0xC0] (fun s => { s with sp := 0xC100, fZ := false }) [(0xC100, 0x03), (0xC101, 0xC2)]
      (fun s => { s with sp := 0xC102, pc := 0xC203 }) [] 20 := by decide
theorem test_vector_J19 :
    Runs [0xC0] (fun s => { s with sp := 0xC100, fZ := true }) [(0xC100, 0x03), (0xC101, 0xC2)]
      (fun s => { s with pc := 0xC001 }) [] 8 := by decide
theorem test_vector_J20 :
    Runs [0xD9] (fun s => { s with sp := 0xC100, ime := false }) [(0xC100, 0x03), (0xC101, 0xC2)]
      (fun s => { s with sp := 0xC102, pc := 0xC203, ime := true }) [] 16 := by decide
theorem test_vector_J21 :
    Runs [0x18, 0x01] (fun s => { s with pc := 0xFFFD }) []
      (fun s => { s with pc := 0x0000 }) [] 12 := by decide
theorem test_vector_M1 : Runs [0x00] id [] (fun s => { s with pc := 0xC001 }) [] 4 := by decide
theorem test_vector_M3 : Runs [0x10, 0x55] id [] (fun s => { s with pc := 0xC002 }) [] 4 := by decide
theorem test_vector_M4 :
    Runs [0xF3] (fun s => { s with ime := true }) []
      (fun s => { s with pc := 0xC001, ime := false }) [] 4 := by decide
theorem test_vector_M6 :
    Runs [0xFB] (fun s => { s with ime := false }) []
      (fun s => { s with pc := 0xC001, eiDelay := true }) [] 4 := by decide
theorem test_vector_X1 :
    Runs [0x3C] (fun s => { s with ime := true, pc := 0xC105 }) [(0xFFFF, 0x05), (0xFF0F, 0x04)]
      (fun s => { s with sp := 0xFFFC, pc := 0x0050, ime := false }) [(0xFF0F, 0x00), (0xFFFC, 0x05), (0xFFFD, 0xC1)] 20 := by decide
theorem test_vector_X2 :
    Runs [0x00] (fun s => { s with ime := true }) [(0xFFFF, 0x1F), (0xFF0F, 0x14)]
      (fun s => { s with sp := 0xFFFC, pc := 0x0050, ime := false }) [(0xFF0F, 0x10), (0xFFFD, 0xC0)] 20 := by decide +kernel
theorem test_vector_X5 :
    Runs [0x3C] (fun s => { s with ime := false }) [(0xFFFF, 0x1F), (0xFF0F, 0x1F)]
      (fun s => { s.setF 0x10 with a := 0x02, pc := 0xC001 }) [] 4 := by decide
theorem test_vector_X6 :
    Runs [0x00] (fun s => { s with ime := true }) [(0xFFFF, 0xE0), (0xFF0F, 0xE0)]
      (fun s => { s with pc := 0xC001 }) [] 4 := by decide
theorem test_vector_X7 :
    Runs [0x00] (fun s => { s with ime := true, run := .halted }) [(0xFFFF, 0x10), (0xFF0F, 0x10)]
      (fun s => { s with sp := 0xFFFC, pc := 0x0060, ime := false, run := .running }) [(0xFF0F, 0x00), (0xFFFD, 0xC0)] 20 := by decide +kernel
theorem test_vector_X10 :
    Runs [0x00] (fun s => { s with ime := true, sp := 0x0001 }) [(0xFFFF, 0x02), (0xFF0F, 0x02)]
      (fun s => { s with sp := 0xFFFF, pc := 0x0048, ime := false }) [(0xFF0F, 0x00), (0xFFFF, 0x00)] 20 := by decide +kernel

/-- L13: a store into closed video RAM is dropped. -/
theorem test_vector_L13 :
    let s := start [0x12] fun s => { s with a := 0x3C, d := 0x80, e := 0x00 }
    let s := s.setVramGate false
    gives (step s) { s with cpu := { s.cpu with pc := 0xC001 }, cost := 8 } = true := by decide

/-- L26: a write to `SC` appends the byte of `SB`. -/
theorem test_vector_L26 :
    let s := start [0xE0, 0x02] (fun s => { s with a := 0x81 }) [(0xFF01, 0x41)]
    gives (step s)
      { cpu := { s.cpu with pc := 0xC002 }
        bus := { s.bus with io := writeCell s.bus.io 0x02 0x81, serialLog := [0x41] }
        cost := 12 } = true := by decide +kernel

/-- W2: `ADD HL,BC` with the other mask (the spec's decision D3). -/
theorem test_vector_W2 :
    let s := start [0x09] fun s => { s.setF 0x80 with h := 0x8A, l := 0x23, b := 0x06, c := 0x05 }
    let s := { s with bus := { s.bus with params := { s.bus.params with hc16Mask := 0x0FFF } } }
    gives (step s) { s with cpu := { s.cpu.setF 0xA0 with h := 0x90, l := 0x28, pc := 0xC001 }, cost := 8 } = true := by
  decide

/-- B29: `SET 1,(HL)` on the ROM range of the banked scheme is a bank-control write. -/
theorem test_vector_B29 :
    let s := start [0xCB, 0xCE] fun s => { s with h := 0x40, l := 0x00 }
    let mbc := { s.bus.mbc with kind := .mbc1 }
    let s := { s with bus := { s.bus with mbc := mbc } }
    gives (step s)
      { cpu := { s.cpu with pc := 0xC002 }
        bus := { s.bus with mbc := { mbc with romBank := 0x61 } }
        cost := 16 } = true := by decide

/-- M5, second step: the enable `EI` left pending takes effect after the next instruction. -/
theorem test_vector_M5 :
    Runs [0x00] (fun s => { s with eiDelay := true }) []
      (fun s => { s with ime := true, eiDelay := false, pc := 0xC001 }) [] 4 := by decide

/-- M8, second step: a halted machine idles. -/
theorem test_vector_M8 : Runs [0x04] (fun s => { s with run := .halted }) [] id [] 4 := by decide

/-- M9, second step: a halted machine with `IME` false wakes and executes. -/
theorem test_vector_M9 :
    Runs [0x04] (fun s => { s with run := .halted }) [(0xFFFF, 0x04), (0xFF0F, 0x04)]
      (fun s => { s.setF 0x10 with b := 0x01, run := .running, pc := 0xC001 }) [] 4 := by decide

/-- M10, M11: two of the unassigned opcodes. -/
theorem test_vector_M10 : stops (step (start [0xD3])) (.illegalOpcode 0xD3 0xC000) = true := by decide

theorem test_vector_M11 : stops (step (start [0xFD])) (.illegalOpcode 0xFD 0xC000) = true := by decide

/-- A25 and A29 with the carry the rules keep (42_alu8.md rules R180, R182; log entry 25). -/
theorem test_inc_memHl_keeps_carry :
    Runs [0x34] (fun s => { s with h := 0xC1, l := 0x00 }) [(0xC100, 0x7F)]
      (fun s => { s.setF 0x30 with pc := 0xC001 }) [(0xC100, 0x80)] 12 := by decide

theorem test_dec_memHl_keeps_carry :
    Runs [0x35] (fun s => { s with h := 0xFE, l := 0xA0 }) []
      (fun s => { s.setF 0x70 with pc := 0xC001 }) [] 12 := by decide

/-! ### The address space, the bank controller and reset (95_test_vectors.md section 3) -/

/-- The start bus of the vectors. -/
def bus : Bus := State.reset.noBoot.bus

/-- Q1: an empty ROM reads FILL, its neighbour is video RAM. -/
theorem test_vector_Q1 : bus.rawRead 0x7FFF = 0xFF ∧ bus.rawRead 0x8000 = 0x00 := by decide

/-- Q2: the echo window both ways, and its end. -/
theorem test_vector_Q2 :
    let b := poke bus [(0xE000, 0x11), (0xC5A5, 0x22), (0xFDFF, 0x33), (0xDE00, 0x44)]
    b.rawRead 0xC000 = 0x11 ∧ b.rawRead 0xE5A5 = 0x22 ∧ b.rawRead 0xDDFF = 0x33 ∧ b.rawRead 0xFDFF = 0x33 ∧
    b.rawRead 0xDE00 = 0x44 ∧ b.rawRead 0xFE00 = 0x00 := by decide

/-- Q3: the unusable region and its neighbours. -/
theorem test_vector_Q3 :
    let b := poke bus [(0xFEA0, 0x55), (0xFEFF, 0x66)]
    b = bus ∧ b.rawRead 0xFEA0 = 0x00 ∧ b.rawRead 0xFEFF = 0x00 ∧ b.rawRead 0xFE9F = 0x00 ∧ b.rawRead 0xFF00 = 0x00 := by
  decide

/-- Q5: the sprite table behind its gate. -/
theorem test_vector_Q5 :
    let b := { poke bus [(0xFE9F, 0x99)] with oamGate := false }
    b.rawRead 0xFE9F = 0xFF ∧ b.rawRead 0xFEA0 = 0x00 ∧ b.rawWrite 0xFE9F 0xAA = b ∧
    ({ b with oamGate := true } : Bus).rawRead 0xFE9F = 0x99 := by decide

/-- Q6: the top of the address space. -/
theorem test_vector_Q6 :
    let b := poke bus [(0xFF80, 0x01), (0xFFFE, 0x02), (0xFFFF, 0x03), (0xFF7F, 0x04)]
    readCell b.hram 0x00 = 0x01 ∧ readCell b.hram 0x7E = 0x02 ∧ readCell b.io 0x80 = 0x03 ∧
    readCell b.io 0x7F = 0x04 := by decide

/-- Q7, Q8: the boot overlay, its end past a short boot ROM, and the latch. -/
theorem test_vector_Q8 :
    let p := { Params.empty with rom := ⟨0x101, [(0, 0x03), (0x100, 0x03)]⟩, boot := ⟨2, [(0, 0x31), (1, 0xFE)]⟩ }
    let b := { State.reset.bus with params := p }
    b.rawRead 0x0000 = 0x31 ∧ b.rawRead 0x0001 = 0xFE ∧ b.rawRead 0x0002 = 0xFF ∧ b.rawRead 0x0100 = 0x03 ∧
    (b.rawWrite 0xFF50 0x00).rawRead 0x0000 = 0x31 ∧ (b.rawWrite 0xFF50 0x01).rawRead 0x0000 = 0x03 ∧
    ((b.rawWrite 0xFF50 0x01).rawWrite 0xFF50 0x00).rawRead 0x0000 = 0x03 := by decide

/-- Q9: the serial log. -/
theorem test_vector_Q9 :
    (poke bus [(0xFF01, 0x48), (0xFF02, 0x81), (0xFF01, 0x69), (0xFF02, 0x00), (0xFF02, 0x81)]).serialLog =
      [0x48, 0x69, 0x69] := by decide

/-- Q10: a handler's nested accesses reach raw storage (20_memory.md rule R59). -/
theorem test_vector_Q10 :
    let b := { poke bus [(0xFF10, 0x20)] with handlerAt := [(0x10, 1), (0x11, 2)] }
    (b.invoke (.read 0xFF10 fun v => .done (v + 1))).1 = 0x21 ∧
    (b.invoke (.write 0xFF10 (0x0F ^^^ 0xFF) (.write 0xFF11 0x5A (.done 0)))).2.io = [(0x10, 0xF0), (0x11, 0x5A)] := by
  decide

/-- The banked scheme with 8 banks and four RAM banks, the high nibble of a bank's first byte naming the bank. -/
def banked : Bus :=
  let rom := { len := 0x20000, cells := (List.range' 1 7).map fun k => (k * 0x4000, BitVec.ofNat 8 (k * 16)) }
  { bus with
    params := { bus.params with rom := rom, cartType := 0x01, eramSize := 0x8000 }
    mbc := resetController .mbc1 [] }

/-- K2 to K6: the five-bit bank select, its remap of zero, and the wrap past the last bank. -/
theorem test_vector_K3 :
    (banked.rawWrite 0x2000 0x00).rawRead 0x4000 = 0x10 ∧ (banked.rawWrite 0x2000 0x03).rawRead 0x4000 = 0x30 ∧
    (banked.rawWrite 0x3FFF 0xE5).mbc.romBank = 5 ∧ (banked.rawWrite 0x2000 0x08).rawRead 0x4000 = 0x00 ∧
    (banked.rawWrite 0x2000 0x20).mbc.romBank = 1 := by decide

/-- K7 to K10: the two-bit select by the banking mode. -/
theorem test_vector_K10 :
    (poke banked [(0x2000, 0x20), (0x4000, 0x01)]).mbc.romBank = 0x21 ∧
    (poke banked [(0x6000, 0x01), (0x4000, 0x02)]).mbc.ramBank = 2 ∧
    (poke banked [(0x6000, 0x01), (0x4000, 0x02)]).mbc.romBank = 1 := by decide

/-- K11 to K13: the external RAM, disabled and enabled, by bank. -/
theorem test_vector_K12 :
    banked.rawRead 0xA000 = 0xFF ∧ banked.rawWrite 0xA000 0x5A = banked ∧
    (poke banked [(0x0000, 0x0A), (0x6000, 0x01), (0x4000, 0x02), (0xA000, 0x5A)]).mbc.eram = [(0x4000, 0x5A)] := by
  decide

/-- K14: the enable looks at the low nibble. -/
theorem test_vector_K14 :
    (banked.rawWrite 0x1FFF 0x1A).mbc.ramEnable = true ∧ (banked.rawWrite 0x0000 0x0B).mbc.ramEnable = false := by
  decide

/-- K17: the index into the external RAM wraps at its size. -/
theorem test_vector_K17 :
    let b := { banked with params := { banked.params with eramSize := 0x0800 } }
    let b := poke b [(0x0000, 0x0A), (0xA000, 0x11)]
    b.rawRead 0xA800 = 0x11 ∧ b.rawRead 0xB800 = 0x11 := by decide

/-- K19: a cartridge type that names no controller. -/
theorem test_vector_K19 : (State.construct { Params.empty with cartType := 0x05 } none).toOption = none := by decide

/-- The persisted image: index `k` is external RAM byte `k`, and the flushed image is the same array (rule R84). -/
theorem test_persisted_image :
    let p := { Params.empty with cartType := 0x03, eramSize := 3 }
    ((State.construct p (some #v[0x5A, 0x00, 0x77])).map fun s => (s.bus.mbc.eram, s.eramImage.toList)).toOption =
      some ([(0, 0x5A), (2, 0x77)], [0x5A, 0x00, 0x77]) := by decide

/-- K21: a ROM of three bytes wraps. -/
theorem test_vector_K21 :
    let b := { bus with params := { bus.params with rom := ⟨3, [(0, 0x01), (1, 0x02), (2, 0x03)]⟩ } }
    b.rawRead 0x0000 = 0x01 ∧ b.rawRead 0x0003 = 0x01 ∧ b.rawRead 0x4000 = 0x02 ∧ b.rawRead 0x7FFF = 0x02 := by decide

/-- Devices and gates between steps (70_reset_and_hazards.md rule R300, 20_memory.md rule R66). -/
theorem test_host_moves :
    ((start []).requestInterrupt 2).bus.rawRead 0xFF0F = 0x04 ∧ ((start []).deviceWrite 0xFF40 0x91).peekVram 0 = 0x00 ∧
    ((start []).setOamGate false).peekOam 0 = 0x00 := by decide

/-! ### Placing an instruction (log entries 8 and 9) -/

theorem test_withFetchWord_one_byte :
    let s := State.reset.withFetchWord 8 0x3C
    gives (step s)
      { s with cpu := { s.cpu with a := 0x01, pc := 0x0001 }, cost := 4 } = true := by decide

theorem test_withFetchWord_secondary :
    let s := State.reset.withFetchWord 16 0xCBC0
    gives (step s) { s with cpu := { s.cpu with b := 0x01, pc := 0x0002 }, cost := 8 } = true := by decide

theorem test_withFetchWord_zero_operand :
    let s := State.reset.withFetchWord 8 0xC3
    gives (step s) { s with cost := 16 } = true := by decide

/-! ### Witnesses: each statement with hypotheses has states and operands that meet them -/

/-- A state in which every step hypothesis of the statements about stepping holds. -/
def running : State := start [0x3E, 0x42]

theorem unclaimed {s : State} (h : s.bus.handlerAt = []) (n : Nat) : s.codeUnclaimed n :=
  fun _ _ => Bus.forwardsTo_of_closed h _

theorem running_steps : ∃ t, step running = .next t := proceeds_next (by decide +kernel)

theorem witness_DecodeInvertsEncode : (Instr.nop) ≠ .prefixCb := by decide

theorem witness_EncodeInvertsDecode :
    decode [0x00] = .ok (.nop, []) ∧ decode [0xC3, 0xFF, 0xFF, 0x12] = .ok (.jpA16 0xFFFF, [0x12]) := by decide

theorem witness_PrimaryTableByFields : (0x00 : Byte) ≠ 0xCB ∧ (0xFF : Byte) ≠ 0xCB ∧ (0xCA : Byte) ≠ 0xCB := by decide

theorem witness_UnassignedOpcodesFault :
    (Instr.illegalD3).form = .unassigned 0xD3 ∧ (Instr.illegalFD).form = .unassigned 0xFD ∧
    0xD3 ∈ unassignedOpcodes ∧ 0xFD ∈ unassignedOpcodes ∧
    stops (exec .illegalD3 (start [])) (.illegalOpcode 0xD3 0xBFFF) = true ∧
    (let s := start [0xFD]
     s.cpu.run = .running ∧ s.bus.forwardsTo addrInterruptFlag = none ∧ s.cpu.ime = false ∧
     s.bus.forwardsTo s.cpu.pc = none ∧ s.bus.rawRead s.cpu.pc = 0xFD) ∧
    (let s := start [0xD3] fun s => { s with ime := true }
     s.cpu.run = .running ∧ s.bus.forwardsTo addrInterruptFlag = none ∧ s.cpu.ime = true ∧ s.pending = 0 ∧
     s.bus.forwardsTo s.cpu.pc = none ∧ s.bus.rawRead s.cpu.pc = 0xD3) := by decide

theorem witness_StepRunsDecoded :
    running.cpu.run = .running ∧ running.bus.forwardsTo addrInterruptFlag = none ∧ running.cpu.ime = false ∧
    running.codeUnclaimed 2 ∧ decode (running.codeBytes 2) = .ok (.ldAD8 0x42, []) :=
  ⟨by decide, by decide, by decide, unclaimed (by decide) _, by decide +kernel⟩

theorem witness_StepRunsDecoded_nothing_pending :
    let s := start [0x00] fun s => { s with ime := true }
    s.cpu.run = .running ∧ s.bus.forwardsTo addrInterruptFlag = none ∧ s.cpu.ime = true ∧ s.pending = 0 ∧
    s.codeUnclaimed 1 ∧ decode (s.codeBytes 1) = .ok (.nop, []) :=
  ⟨by decide, by decide, by decide, by decide, unclaimed (by decide) _, by decide +kernel⟩

/-- `IE & IF & 0x1F` of a bus, read as the statements read it. -/
def pendingOf (b : Bus) : Byte :=
  let e := b.read addrInterruptEnable
  e.1 &&& (e.2.read addrInterruptFlag).1 &&& 0x1F

theorem witness_HaltedStep :
    (start [] fun s => { s with run := .halted }).cpu.run = .halted ∧
    pendingOf (start [] (fun s => { s with run := .halted }) [(0xFFFF, 0xE0), (0xFF0F, 0xFF)]).bus = 0 ∧
    pendingOf (start [] (fun s => { s with run := .halted }) [(0xFFFF, 0x10), (0xFF0F, 0x10)]).bus ≠ 0 := by decide

theorem witness_DispatchEntry :
    (start [] fun s => { s with ime := true }).cpu.ime = true ∧
    (pendingOf (start [] (fun s => { s with ime := true }) [(0xFFFF, 0x01), (0xFF0F, 0xE1)]).bus).getLsbD 0 = true ∧
    (pendingOf (start [] (fun s => { s with ime := true }) [(0xFFFF, 0x10), (0xFF0F, 0x1F)]).bus).getLsbD 4 = true ∧
    ∀ m, m < 4 →
      (pendingOf (start [] (fun s => { s with ime := true }) [(0xFFFF, 0x10), (0xFF0F, 0x1F)]).bus).getLsbD m = false := by
  decide

theorem witness_LowestSourceFirst :
    let s := start [] (fun s => { s with ime := true }) [(0xFFFF, 0x1F), (0xFF0F, 0x14)]
    s.cpu.ime = true ∧ s.pending ≠ 0 ∧ s.bus.forwardsTo addrInterruptFlag = none ∧
    s.bus.forwardsTo (s.cpu.sp - 1) = none ∧ s.bus.forwardsTo (s.cpu.sp - 2) = none ∧
    s.cpu.sp - 1 ≠ addrInterruptFlag ∧ s.cpu.sp - 2 ≠ addrInterruptFlag := by decide

theorem witness_EnableTakesEffectNextStep :
    let s := start [0x00] fun s => { s with eiDelay := true }
    let t := start [0xF3] fun s => { s with eiDelay := true }
    (s.cpu.run = .running ∧ s.cpu.eiDelay = true ∧ s.cpu.ime = false ∧ s.bus.forwardsTo addrInterruptFlag = none ∧
      s.codeUnclaimed 1 ∧ decode (s.codeBytes 1) = .ok (.nop, []) ∧ ∃ u, step s = .next u) ∧
    t.cpu.run = .running ∧ t.cpu.eiDelay = true ∧ t.cpu.ime = false ∧ t.bus.forwardsTo addrInterruptFlag = none ∧
    t.codeUnclaimed 1 ∧ decode (t.codeBytes 1) = .ok (.di, []) ∧ ∃ u, step t = .next u :=
  ⟨⟨by decide, by decide, by decide, by decide, unclaimed (by decide) _, by decide +kernel,
      proceeds_next (by decide +kernel)⟩,
    by decide, by decide, by decide, by decide, unclaimed (by decide) _, by decide +kernel, proceeds_next (by decide +kernel)⟩

/-- A sound state that steps: the witness of the statements about every step. -/
theorem witness_InvariantKeptByStep : State.Inv running ∧ ∃ t, step running = .next t := ⟨by decide, running_steps⟩

theorem witness_HostSideUntouched : ∃ t, step running = .next t := running_steps

theorem witness_BootLatchAndLogOneWay : running.bus.booting = false ∧ ∃ t, step running = .next t := ⟨rfl, running_steps⟩

theorem witness_StepCosts : ∃ t, step running = .next t := running_steps

theorem witness_NoControllerFrozen :
    running.bus.mbc.kind = .none ∧ running.bus.mbc.Allowed ∧ (0x7FFF : Word).toNat < 0x8000 ∧
    ∃ t, step running = .next t := ⟨rfl, by decide, by decide, running_steps⟩

/-- The boundaries of the address map (20_memory.md rule R40), one witness at each end of each range. -/
theorem witness_AddressMapAndInterruptEnable :
    route 0x0000 = .rom 0 ∧ route 0x7FFF = .rom 0x7FFF ∧ route 0x8000 = .vram 0 ∧ route 0x9FFF = .vram 0x1FFF ∧
    route 0xA000 = .eram 0 ∧ route 0xBFFF = .eram 0x1FFF ∧ route 0xC000 = .wram 0 ∧ route 0xDFFF = .wram 0x1FFF ∧
    route 0xE000 = .echo 0 ∧ route 0xFDFF = .echo 0x1DFF ∧ route 0xFE00 = .oam 0 ∧ route 0xFE9F = .oam 0x9F ∧
    route 0xFEA0 = .unusable ∧ route 0xFEFF = .unusable ∧ route 0xFF00 = .io 0 ∧ route 0xFF7F = .io 0x7F ∧
    route 0xFF80 = .hram 0 ∧ route 0xFFFE = .hram 0x7E ∧ route 0xFFFF = .interruptEnable := by decide

theorem witness_WorkRamEchoAndHighRam :
    0xC000 ≤ (0xC000 : Word).toNat ∧ (0xC000 : Word).toNat < 0xE000 ∧
    0xC000 ≤ (0xDFFF : Word).toNat ∧ (0xDFFF : Word).toNat < 0xE000 ∧
    0xFF80 ≤ (0xFF80 : Word).toNat ∧ (0xFF80 : Word).toNat < 0xFFFF ∧
    0xFF80 ≤ (0xFFFE : Word).toNat ∧ (0xFFFE : Word).toNat < 0xFFFF ∧
    0xE000 ≤ (0xE000 : Word).toNat ∧ (0xE000 : Word).toNat < 0xFE00 ∧
    0xE000 ≤ (0xFDFF : Word).toNat ∧ (0xFDFF : Word).toNat < 0xFE00 := by decide

theorem witness_GatesAndUnusable :
    0x8000 ≤ (0x8000 : Word).toNat ∧ (0x8000 : Word).toNat < 0xA000 ∧
    0x8000 ≤ (0x9FFF : Word).toNat ∧ (0x9FFF : Word).toNat < 0xA000 ∧
    0xFE00 ≤ (0xFE00 : Word).toNat ∧ (0xFE00 : Word).toNat < 0xFEA0 ∧
    0xFE00 ≤ (0xFE9F : Word).toNat ∧ (0xFE9F : Word).toNat < 0xFEA0 ∧
    0xFEA0 ≤ (0xFEA0 : Word).toNat ∧ (0xFEA0 : Word).toNat < 0xFF00 ∧
    0xFEA0 ≤ (0xFEFF : Word).toNat ∧ (0xFEFF : Word).toNat < 0xFF00 := by decide

theorem witness_RomRangeReads : (0x0000 : Word).toNat < 0x8000 ∧
    (0x00FF : Word).toNat < 0x8000 ∧
    (0x0100 : Word).toNat < 0x8000 ∧
    (0x3FFF : Word).toNat < 0x8000 ∧
    (0x4000 : Word).toNat < 0x8000 ∧
    (0x7FFF : Word).toNat < 0x8000 := by
  decide

theorem witness_BankControlWrites :
    banked.mbc.kind = .mbc1 ∧ banked.mbc.bankMode = 0 ∧ (banked.rawWrite 0x6000 0x01).mbc.bankMode = 1 ∧
    (banked.rawWrite 0x6000 0x01).mbc.kind = .mbc1 ∧
    (0x0000 : Word).toNat < 0x2000 ∧
    (0x1FFF : Word).toNat < 0x2000 ∧
    0x2000 ≤ (0x2000 : Word).toNat ∧ (0x2000 : Word).toNat < 0x4000 ∧
    0x2000 ≤ (0x3FFF : Word).toNat ∧ (0x3FFF : Word).toNat < 0x4000 ∧
    0x4000 ≤ (0x4000 : Word).toNat ∧ (0x4000 : Word).toNat < 0x6000 ∧
    0x4000 ≤ (0x5FFF : Word).toNat ∧ (0x5FFF : Word).toNat < 0x6000 ∧
    0x6000 ≤ (0x6000 : Word).toNat ∧ (0x6000 : Word).toNat < 0x8000 ∧
    0x6000 ≤ (0x7FFF : Word).toNat ∧ (0x7FFF : Word).toNat < 0x8000 := by decide

theorem witness_ExternalRam :
    0xA000 ≤ (0xA000 : Word).toNat ∧ (0xA000 : Word).toNat < 0xC000 ∧
    0xA000 ≤ (0xBFFF : Word).toNat ∧ (0xBFFF : Word).toNat < 0xC000 ∧ banked.mbc.ramEnable = false ∧
    bus.params.eramSize = 0 ∧ (banked.rawWrite 0x0000 0x0A).mbc.ramEnable = true ∧
    0 < (banked.rawWrite 0x0000 0x0A).params.eramSize := by decide

theorem witness_IoWindowUnclaimed :
    0xFF00 ≤ (0xFF00 : Word).toNat ∧ (0xFF00 : Word).toNat < 0xFF80 ∧ bus.forwardsTo (0xFF00 : Word) = none ∧
    0xFF00 ≤ (0xFF02 : Word).toNat ∧ (0xFF02 : Word).toNat < 0xFF80 ∧ bus.forwardsTo (0xFF02 : Word) = none ∧
    0xFF00 ≤ (0xFF50 : Word).toNat ∧ (0xFF50 : Word).toNat < 0xFF80 ∧ bus.forwardsTo (0xFF50 : Word) = none ∧
    0xFF00 ≤ (0xFF7F : Word).toNat ∧ (0xFF7F : Word).toNat < 0xFF80 ∧ bus.forwardsTo (0xFF7F : Word) = none := by decide

theorem witness_IoWindowForwarded :
    let b := { bus with handlerAt := [(0x00, 3), (0x7F, 7)] }
    b.forwardsTo 0xFF00 = some 3 ∧ b.forwardsTo 0xFF7F = some 7 := by decide

theorem witness_NestedAccessesBypass :
    ({ bus with guard := .dispatching } : Bus).guard = .dispatching ∧
    0xFF00 ≤ (0xFF00 : Word).toNat ∧ (0xFF00 : Word).toNat < 0xFF80 ∧
    0xFF00 ≤ (0xFF7F : Word).toNat ∧ (0xFF7F : Word).toNat < 0xFF80 ∧
    ((0xFEFF : Word).toNat < 0xFF00 ∨ 0xFF80 ≤ (0xFEFF : Word).toNat) ∧
    ((0xFF80 : Word).toNat < 0xFF00 ∨ 0xFF80 ≤ (0xFF80 : Word).toNat) := by decide

theorem witness_HandlerRegistration : (0 : Nat) < 0x80 ∧ (0x7F : Nat) < 0x80 := by decide

theorem witness_WriteFrame :
    bus.aliases 0xC000 0xC001 = false ∧ bus.aliases 0x0000 0x3FFF = false ∧ bus.aliases 0xFF50 0x0100 = false ∧
    banked.aliases 0xA000 0xBFFF = false ∧ bus.aliases 0xFEA0 0xFEA0 = false ∧ bus.aliases 0xE000 0xC001 = false ∧
    bus.retains 0xC000 = true ∧ bus.retains 0xFFFF = true ∧ bus.retains 0x8000 = true ∧ bus.retains 0xFE9F = true ∧
    (banked.rawWrite 0x0000 0x0A).retains 0xBFFF = true := by decide

theorem witness_Loads8 :
    (Instr.ldBA).form = .ldRegReg .b .a ∧ (Instr.ldBD8 0xFF).form = .ldRegImm .b 0xFF ∧
    (Instr.ldHMemHl).form = .ldRegMem .h ∧ (Instr.ldMemHlL).form = .ldMemReg .l ∧
    (Instr.ldMemHlD8 0x00).form = .ldMemImm 0x00 := by decide

theorem witness_LoadsAndStoresOfAThroughPairs :
    (Instr.ldAMemBc).form = .ldAPtr .bc ∧ (Instr.ldAMemDe).form = .ldAPtr .de ∧
    (Instr.ldAMemHlInc).form = .ldAPtr .hlInc ∧ (Instr.ldAMemHlDec).form = .ldAPtr .hlDec ∧
    (Instr.ldMemBcA).form = .ldPtrA .bc ∧ (Instr.ldMemDeA).form = .ldPtrA .de ∧
    (Instr.ldMemHlIncA).form = .ldPtrA .hlInc ∧ (Instr.ldMemHlDecA).form = .ldPtrA .hlDec := by decide

theorem witness_LoadsAndStoresOfAAbsolute :
    (Instr.ldAMemA16 0xFFFF).form = .ldAAbs 0xFFFF ∧ (Instr.ldMemA16A 0x0000).form = .ldAbsA 0x0000 ∧
    (Instr.ldhMemA8A 0xFF).form = .ldhStore 0xFF ∧ (Instr.ldhAMemA8 0x00).form = .ldhLoad 0x00 ∧
    (Instr.ldMemCA).form = .ldHighCA ∧ (Instr.ldAMemC).form = .ldAHighC := by decide

theorem witness_Loads16 :
    (Instr.ldBcD16 0xFFFF).form = .ldPairImm .bc 0xFFFF ∧ (Instr.ldSpD16 0x0000).form = .ldPairImm .sp 0x0000 ∧
    (Instr.ldSpHl).form = .ldSpHl ∧ (Instr.ldMemA16Sp 0xFFFF).form = .ldAbsSp 0xFFFF ∧
    (Instr.ldHlSpR8 0x80).form = .ldHlSp 0x80 := by decide

theorem witness_Pushes :
    (Instr.pushBc).form = .push .bc ∧ (Instr.pushDe).form = .push .de ∧ (Instr.pushHl).form = .push .hl ∧
    (Instr.pushAf).form = .push .af := by decide

theorem witness_Pops :
    (Instr.popBc).form = .pop .bc ∧ (Instr.popDe).form = .pop .de ∧ (Instr.popHl).form = .pop .hl ∧
    (Instr.popAf).form = .pop .af := by decide

theorem witness_PushPopRoundTrip :
    let s := start []
    (Instr.pushAf).form = .push .af ∧ (Instr.popAf).form = .pop .af ∧ s.bus.forwardsTo (s.cpu.sp - 1) = none ∧
    s.bus.forwardsTo (s.cpu.sp - 2) = none ∧ s.bus.retains (s.cpu.sp - 1) = true ∧
    s.bus.retains (s.cpu.sp - 2) = true ∧ s.bus.params.eramSize ≠ 1 ∧ ∃ t, exec .pushAf s = .next t :=
  ⟨rfl, rfl, by decide, by decide, by decide, by decide, by decide, proceeds_next (by decide +kernel)⟩

theorem witness_AddAndAddWithCarry :
    (Instr.addAB).form = .alu .add (.opnd (.reg .b)) ∧ (Instr.adcAMemHl).form = .alu .adc (.opnd .memHl) ∧
    (Instr.adcAD8 0xFF).form = .alu .adc (.imm 0xFF) := by decide

theorem witness_SubtractAndSubtractWithCarry :
    (Instr.subMemHl).form = .alu .sub (.opnd .memHl) ∧ (Instr.sbcAA).form = .alu .sbc (.opnd (.reg .a)) ∧
    (Instr.subD8 0x00).form = .alu .sub (.imm 0x00) := by decide

theorem witness_AndXorOr :
    (Instr.andL).form = .alu .and (.opnd (.reg .l)) ∧ (Instr.xorMemHl).form = .alu .xor (.opnd .memHl) ∧
    (Instr.orD8 0x0F).form = .alu .or (.imm 0x0F) := by decide

theorem witness_Compare :
    (Instr.cpB).form = .alu .cp (.opnd (.reg .b)) ∧ (Instr.cpD8 0x3C).form = .alu .cp (.imm 0x3C) := by decide

theorem witness_IncrementAndDecrement8 :
    (Instr.incA).form = .inc8 (.reg .a) ∧ (Instr.incMemHl).form = .inc8 .memHl ∧ (Instr.decL).form = .dec8 (.reg .l) ∧
    (Instr.decMemHl).form = .dec8 .memHl := by decide

theorem witness_DecimalCorrection : (Instr.daa).form = .daa := by decide

theorem witness_ComplementAndCarryFlag :
    (Instr.cplA).form = .cpl ∧ (Instr.scf).form = .scf ∧ (Instr.ccf).form = .ccf := by decide

theorem witness_Arithmetic16 :
    (Instr.addHlHl).form = .addHl .hl ∧ (Instr.addHlSp).form = .addHl .sp ∧ (Instr.incBc).form = .inc16 .bc ∧
    (Instr.incSp).form = .inc16 .sp ∧ (Instr.decDe).form = .dec16 .de ∧ (Instr.addSpR8 0x80).form = .addSp 0x80 := by
  decide

theorem witness_RotatesOfA :
    (Instr.rlca).form = .rotA .rlc ∧ (Instr.rrca).form = .rotA .rrc ∧ (Instr.rla).form = .rotA .rl ∧
    (Instr.rra).form = .rotA .rr := by decide

theorem witness_ShiftsOfARegister :
    (Instr.cbRlcB).form = .shift .rlc (.reg .b) ∧ (Instr.cbSwapA).form = .shift .swap (.reg .a) ∧
    (Instr.cbSrlA).form = .shift .srl (.reg .a) := by decide

theorem witness_ShiftsOfMemory :
    (Instr.cbRlcMemHl).form = .shift .rlc .memHl ∧ (Instr.cbSrlMemHl).form = .shift .srl .memHl := by decide

theorem witness_BitTestsResetsAndSets :
    (Instr.cbBit0B).form = .bit 0 (.reg .b) ∧ (Instr.cbBit7MemHl).form = .bit 7 .memHl ∧
    (Instr.cbRes0A).form = .res 0 (.reg .a) ∧ (Instr.cbRes7MemHl).form = .res 7 .memHl ∧
    (Instr.cbSet7L).form = .set 7 (.reg .l) ∧ (Instr.cbSet0MemHl).form = .set 0 .memHl := by decide

theorem witness_Jumps :
    (Instr.jpA16 0xFFFF).form = .jp 0xFFFF ∧ (Instr.jpNzA16 0x0000).form = .jpCc .nz 0x0000 ∧
    (Instr.jrR8 0x80).form = .jr 0x80 ∧ (Instr.jrCR8 0x7F).form = .jrCc .c 0x7F ∧ (Instr.jpHl).form = .jpHl ∧
    Cond.Holds .z Cpu.noBoot ∧ ¬ Cond.Holds .nz Cpu.noBoot ∧ Cond.Holds .c Cpu.noBoot ∧ ¬ Cond.Holds .nc Cpu.noBoot :=
  ⟨rfl, rfl, rfl, rfl, rfl, rfl, Bool.noConfusion, rfl, Bool.noConfusion⟩

theorem witness_CallsAndRestarts :
    (Instr.callA16 0xFFFF).form = .call 0xFFFF ∧ (Instr.callNcA16 0x0000).form = .callCc .nc 0x0000 ∧
    (Instr.rst00).form = .rst 0 ∧ (Instr.rst38).form = .rst 7 ∧ Cond.Holds .nc Cpu.reset ∧ ¬ Cond.Holds .nc Cpu.noBoot :=
  ⟨rfl, rfl, rfl, rfl, rfl, Bool.noConfusion⟩

theorem witness_Returns :
    (Instr.ret).form = .ret ∧ (Instr.retZ).form = .retCc .z ∧ (Instr.reti).form = .reti ∧ Cond.Holds .z Cpu.noBoot ∧
    ¬ Cond.Holds .z Cpu.reset :=
  ⟨rfl, rfl, rfl, rfl, Bool.noConfusion⟩

theorem witness_NopHaltStopDisableEnable :
    (Instr.nop).form = .nop ∧ (Instr.halt).form = .halt ∧ (Instr.stop 0xFF).form = .stop 0xFF ∧ (Instr.di).form = .di ∧
    (Instr.ei).form = .ei ∧ Cpu.noBoot.ime = false ∧ ({ Cpu.noBoot with ime := true } : Cpu).ime = true := by decide

theorem witness_FlagFrame : (Instr.addAB) ≠ .prefixCb ∧ ∃ t, exec .addAB (start []) = .next t :=
  ⟨by decide, proceeds_next (by decide +kernel)⟩

theorem witness_RegisterFrame :
    (Instr.ldBA) ≠ .prefixCb ∧ (∃ t, exec .ldBA (start []) = .next t) ∧ Reg8.c ∉ (Instr.ldBA).form.registers ∧
    (Instr.ldBA).form.writesSp = false ∧ (Instr.ldBA).form.transfers = false ∧ (Instr.ldBA).form ≠ .di ∧
    (Instr.ldBA).form ≠ .reti ∧ (Instr.ldBA).form ≠ .ei ∧ (Instr.ldBA).form ≠ .halt :=
  ⟨by decide, proceeds_next (by decide +kernel), by decide, rfl, rfl, by decide, by decide, by decide, by decide⟩

theorem witness_MemoryFrame :
    (Instr.pushBc) ≠ .prefixCb ∧ (Instr.pushBc).form.stores Cpu.noBoot = [0xFFFD, 0xFFFC] ∧
    (∀ a ∈ (Instr.pushBc).form.loads Cpu.noBoot ++ (Instr.pushBc).form.stores Cpu.noBoot,
      (start []).bus.forwardsTo a = none) ∧
    (start []).bus.aliases 0xFFFD 0xFFFE = false ∧ (start []).bus.aliases 0xFFFC 0xFFFE = false ∧
    (Instr.popBc).form.stores Cpu.noBoot = [] ∧
    (∀ a ∈ (Instr.popBc).form.loads Cpu.noBoot ++ (Instr.popBc).form.stores Cpu.noBoot,
      (start []).bus.forwardsTo a = none) ∧
    (∃ t, exec .pushBc (start []) = .next t) ∧ ∃ t, exec .popBc (start []) = .next t :=
  ⟨by decide, by decide, fun _ _ => Bus.forwardsTo_of_closed (by decide) _, by decide, by decide, by decide,
    fun _ _ => Bus.forwardsTo_of_closed (by decide) _, proceeds_next (by decide +kernel), proceeds_next (by decide +kernel)⟩

theorem witness_ControllerSelection :
    ({ Params.empty with cartType := 0x00 } : Params).cartType = 0x00 ∧
    1 ≤ (0x01 : Byte).toNat ∧ (0x01 : Byte).toNat ≤ 3 ∧
    1 ≤ (0x03 : Byte).toNat ∧ (0x03 : Byte).toNat ≤ 3 ∧ 3 < (0x04 : Byte).toNat ∧
    3 < (0xFF : Byte).toNat ∧
    selects State.reset.bus.params.cartType State.reset.bus.mbc.kind = true := by decide

theorem witness_PersistedImage :
    (∃ s, State.construct { Params.empty with cartType := 0x03, eramSize := 2 } none = .ok s) ∧
    (∃ s, State.construct { Params.empty with cartType := 0x03, eramSize := 2 } (some #v[0x00, 0xFF]) = .ok s) ∧
    (∃ s, State.construct { Params.empty with cartType := 0x00 } none = .ok s) ∧ 0 < banked.params.eramSize ∧
    State.Inv running :=
  ⟨⟨_, rfl⟩, ⟨_, rfl⟩, ⟨_, rfl⟩, by decide, by decide⟩

end Sys2Proof.Tests
end

/-! The persisted external-RAM image (20_memory.md rule R84): what construction loads, what the two entry points keep,
and that flushing and loading are inverse on buffers in canonical form. -/

namespace Sys2Proof.Machine

/-! ### Loading and flushing the external RAM -/

theorem imageByte_some {size : Nat} (bytes : Vector Byte size) (k : Nat) :
    imageByte (some bytes) k = bytes.toList.getD k unlistedByte := rfl

/-- Loading reads back as the image, and as 0x00 past it. -/
theorem readCell_eramFromImage {size : Nat} (image : Option (Vector Byte size)) (k : Nat) :
    readCell (eramFromImage image) k = imageByte image k := by
  cases image with
  | none => rfl
  | some bytes =>
    have h := readCell_cellsFrom 0 bytes.toList k
    rwa [Nat.zero_add] at h

/-- A buffer reads as unlisted from its size on. -/
theorem readCell_past_buffer {m : Memory} {size : Nat} (hm : Memory.buffer m size) {k : Nat} (hk : size ≤ k) :
    readCell m k = unlistedByte :=
  readCell_of_absent fun cell hc => by
    have := hm.2 cell hc
    omega

/-- Loading what was flushed gives the same buffer, because both are in canonical form and read alike. -/
theorem eramFromImage_bufferBytes {m : Memory} {size : Nat} (hm : Memory.buffer m size) :
    eramFromImage (some (bufferBytes m size)) = m := by
  refine eq_of_readCell_eq (eramFromImage_buffer _).1 hm.1 fun k => ?_
  rw [readCell_eramFromImage, imageByte_some]
  by_cases hk : k < size
  · exact bufferBytes_getD hk
  · rw [readCell_past_buffer hm (by omega)]
    exact List.getD_eq_default _ _ (by simpa using hk)

theorem State.eramImage_getElem (s : State) {k : Nat} (hk : k < s.bus.params.eramSize) :
    s.eramImage[k] = readCell s.bus.mbc.eram k := by
  simp [State.eramImage, bufferBytes]

/-! ### The controller kind and its reset state -/

theorem selects_iff {cartType : Byte} {kind : MbcKind} :
    selects cartType kind = true ↔ controllerOf cartType = .ok kind := by
  unfold selects
  cases controllerOf cartType <;> simp

/-- The reset banking state is one every controller kind allows. -/
theorem resetController_allowed (kind : MbcKind) (eram : Memory) : (resetController kind eram).Allowed :=
  ⟨fun _ => ⟨rfl, rfl, rfl, rfl⟩, fun _ => (by decide : (1 : BitVec 7).extractLsb' 0 5 ≠ 0)⟩

/-- Construction where `CART_TYPE` selects a controller. -/
theorem State.construct_eq_ok {p : Params} {kind : MbcKind} (hk : controllerOf p.cartType = .ok kind)
    (image : Option (Vector Byte p.eramSize)) :
    State.construct p image =
      .ok { State.reset with
            bus := { State.reset.bus with params := p, mbc := resetController kind (eramFromImage image) } } := by
  unfold State.construct
  rw [hk]

/-! ### The two entry points -/

@[simp] theorem State.resetSession_eram (s : State) : s.resetSession.bus.mbc.eram = s.bus.mbc.eram := rfl

@[simp] theorem State.noBoot_eram (s : State) : s.noBoot.bus.mbc.eram = s.bus.mbc.eram := rfl

/-- The empty buffer, as `reset()` leaves it, is canonical at every size. -/
theorem buffer_nil (size : Nat) : Memory.buffer [] size :=
  ⟨⟨.nil, fun _ h => absurd h List.not_mem_nil⟩, fun _ h => absurd h List.not_mem_nil⟩

/-- Selecting again from `CART_TYPE` gives the controller it selected before. -/
theorem Bus.resetBus_mbc {b : Bus} (hk : selects b.params.cartType b.mbc.kind = true) :
    b.resetBus.mbc = resetController b.mbc.kind b.mbc.eram := by
  unfold Bus.resetBus
  rw [selects_iff.mp hk]

/-- Of the address space before it, `reset()` needs only a sound external RAM and the selected controller. -/
theorem Bus.resetBus_sound {b : Bus} (he : Memory.buffer b.mbc.eram b.params.eramSize)
    (hk : selects b.params.cartType b.mbc.kind = true) : b.resetBus.Sound := by
  have hmbc := Bus.resetBus_mbc hk
  refine ⟨⟨buffer_nil _, buffer_nil _, buffer_nil _, buffer_nil _, buffer_nil _, he⟩, ?_, ?_⟩
  · rw [hmbc]; exact resetController_allowed _ _
  · rw [hmbc]; exact hk

theorem State.resetSession_inv {s : State} (he : Memory.buffer s.bus.mbc.eram s.bus.params.eramSize)
    (hk : selects s.bus.params.cartType s.bus.mbc.kind = true) : s.resetSession.Inv :=
  ⟨Bus.resetBus_sound he hk, rfl, fun _ => rfl⟩

/-- The no-boot initializer adds to `reset()` registers with no enable pending and the boot latch, which the invariant
does not speak of. -/
theorem State.noBoot_inv {s : State} (he : Memory.buffer s.bus.mbc.eram s.bus.params.eramSize)
    (hk : selects s.bus.params.cartType s.bus.mbc.kind = true) : s.noBoot.Inv :=
  ⟨Bus.resetBus_sound he hk, rfl, fun _ => rfl⟩

end Sys2Proof.Machine

section
open Sys2Proof Sys2Proof.Machine

/-- Settles O60: construction loads the image and either entry point keeps it; loading inverts flushing because the
external RAM of a state that meets the invariant is in canonical form. -/
theorem persistedImage : Obligations.PersistedImage := by
  refine ⟨fun p image s hs => ?_, fun s _ hk => s.eramImage_getElem hk, fun s hinv => ?_⟩
  · obtain ⟨kind, hkind, rfl⟩ := State.construct_cases hs
    have he := eramFromImage_buffer image
    have hsel := selects_iff.mpr hkind
    exact ⟨rfl, rfl, rfl, readCell_eramFromImage image,
      State.resetSession_eram _, State.resetSession_inv he hsel,
      State.noBoot_eram _, State.noBoot_inv he hsel⟩
  · obtain ⟨⟨⟨_, _, _, _, _, he⟩, _, hsel⟩, _, _⟩ := hinv
    exact ⟨_, State.construct_eq_ok (selects_iff.mp hsel) _, eramFromImage_bufferBytes he⟩

end

/-! What every step does to the bus and the enable bits, from the one statement of what a step can do: a step that
answers a next state reaches its bus by reads and writes. -/

namespace Sys2Proof.Machine

/-! ### A step that answers a next state -/

/-- Of the two outcomes of a step, the one with a next state. -/
theorem step_next_good {s t : State} (h : step s = .next t) : Good s (.next t) := by
  obtain hgood | ⟨_, _, _, _, hfault⟩ := step_cases s
  · rwa [h] at hgood
  · rw [h] at hfault; cases hfault

theorem step_reaches {s t : State} (h : step s = .next t) : s.bus.Reaches t.bus := by
  obtain ⟨_, ⟨rfl⟩, hbus, _⟩ := step_next_good h
  exact hbus

theorem step_enableSound {s t : State} (h : step s = .next t) (hs : s.cpu.EnableSound) : t.cpu.EnableSound := by
  obtain ⟨_, ⟨rfl⟩, _, hcpu⟩ := step_next_good h
  exact hcpu hs

/-! ### The controller kind -/

/-- A write selects no other controller: the kind is no banking register (20_memory.md rule R70). -/
theorem Bus.rawWrite_kind (b : Bus) (a : Word) (v : Byte) : (b.rawWrite a v).mbc.kind = b.mbc.kind := by
  unfold Bus.rawWrite
  split
  case h_1 => exact bankControl_kind ..
  case h_3 => exact eramWrite_kind ..
  case h_2 | h_6 => split <;> rfl
  all_goals rfl

theorem Bus.stable_kind (k : MbcKind) : Bus.Stable fun b => b.mbc.kind = k where
  rawWrite b a v h := (Bus.rawWrite_kind b a v).trans h
  ioSideEffects _ _ _ h := h
  bookkeeping _ _ _ h := h

theorem Bus.Reaches.kind {b c : Bus} (h : b.Reaches c) : c.mbc.kind = b.mbc.kind :=
  h.keeps (Bus.stable_kind b.mbc.kind) rfl

/-! ### The boot latch and the serial log -/

theorem Bus.Reaches.booting {b c : Bus} (h : b.Reaches c) (hb : b.booting = false) : c.booting = false :=
  h.keeps Bus.stable_boot_off hb

theorem Bus.Reaches.serialLog {b c : Bus} (h : b.Reaches c) : b.serialLog <+: c.serialLog :=
  h.keeps (Bus.stable_log b.serialLog) (List.prefix_refl _)

end Sys2Proof.Machine

section
open Sys2Proof Sys2Proof.Machine

/-- Settles O14: each part of the invariant is kept along the reads and writes that reach the next state's bus, and the
enable bits by what a step can do. -/
theorem invariantKeptByStep : Obligations.InvariantKeptByStep := by
  intro s t ⟨hsound, hguard, henable⟩ hstep
  have hbus := step_reaches hstep
  exact ⟨hbus.sound hsound, hbus.guard_idle hguard, step_enableSound hstep henable⟩

/-- Settles O15: no read or write, a handler's included, touches the host's side or the controller kind. -/
theorem hostSideUntouched : Obligations.HostSideUntouched := by
  intro s t hstep
  have hbus := step_reaches hstep
  exact ⟨hbus.hostSide, hbus.kind⟩

/-- Settles O16: both are kept by every read and write. -/
theorem bootLatchAndLogOneWay : Obligations.BootLatchAndLogOneWay := by
  intro s t hstep
  have hbus := step_reaches hstep
  exact ⟨hbus.booting, hbus.serialLog⟩

/-- Settles O13: the empty buffers, the reset banking state and the registers of `reset()` are sound. -/
theorem invariantAtReset : Obligations.InvariantAtReset := by
  have hempty := buffer_nil
  exact ⟨⟨⟨hempty _, hempty _, hempty _, hempty _, hempty _, hempty _⟩, resetController_allowed .none [],
    by decide⟩, rfl, fun _ => rfl⟩

end

/-! The machine after reset and after the no-boot initializer (10_state.md rules R31, R32), and the packed flag byte
(rule R13). -/

namespace Sys2Proof.Machine

/-! ### The registers of the two entry points -/

theorem Cpu.reset_reg (r : Reg8) : Cpu.reset.reg r = 0 := by cases r <;> rfl
theorem Cpu.reset_f : Cpu.reset.f = 0 := by decide

theorem Cpu.noBoot_af : Cpu.noBoot.af = 0x01B0 := by decide
theorem Cpu.noBoot_bc : Cpu.noBoot.bc = 0x0013 := by decide
theorem Cpu.noBoot_de : Cpu.noBoot.de = 0x00D8 := by decide
theorem Cpu.noBoot_hl : Cpu.noBoot.hl = 0x014D := by decide

/-! ### The packed flag byte -/

theorem packFlags_toNat (z n h c : Bool) :
    (packFlags z n h c).toNat = 128 * z.toNat + 64 * n.toNat + 32 * h.toNat + 16 * c.toNat := by
  revert z n h c; decide

/-- Bits 7 to 4 of the packed byte are the flags, so that unpacking it gives them back. -/
theorem Cpu.setF_packFlags (s : Cpu) (z n h c : Bool) :
    s.setF (packFlags z n h c) = { s with fZ := z, fN := n, fH := h, fC := c } := by
  have hbits : ∀ z n h c : Bool, (packFlags z n h c).getLsbD 7 = z ∧ (packFlags z n h c).getLsbD 6 = n ∧
      (packFlags z n h c).getLsbD 5 = h ∧ (packFlags z n h c).getLsbD 4 = c := by decide
  obtain ⟨hz, hn, hh, hc⟩ := hbits z n h c
  simp only [Cpu.setF, hz, hn, hh, hc]

/-- The four bits packed again, the low four zero. -/
theorem packFlags_getLsbD (v : Byte) :
    packFlags (v.getLsbD 7) (v.getLsbD 6) (v.getLsbD 5) (v.getLsbD 4) = v &&& 0xF0 := by
  revert v; decide

theorem Cpu.f_setF (s : Cpu) (v : Byte) : (s.setF v).f = v &&& 0xF0 := packFlags_getLsbD v

theorem Cpu.setF_f (s : Cpu) : s.setF s.f = s := s.setF_packFlags ..

end Sys2Proof.Machine

section
open Sys2Proof Sys2Proof.Machine

/-- Settles O58: `reset()` puts the reset registers, empty buffers and the reset banking state, the no-boot initializer
its own registers. -/
theorem resetAndNoBoot : Obligations.ResetAndNoBoot := by
  refine ⟨fun s => ?_, by decide, fun s => ?_⟩
  · exact ⟨Cpu.reset_reg, Cpu.reset_f, rfl, rfl, rfl, rfl, rfl,
      fun _ => ⟨rfl, rfl, rfl, rfl, rfl⟩,
      rfl, rfl, rfl, rfl, rfl, rfl, rfl, rfl, rfl, rfl, rfl, rfl⟩
  · exact ⟨Cpu.noBoot_af, Cpu.noBoot_bc, Cpu.noBoot_de, Cpu.noBoot_hl, rfl, rfl, rfl, rfl, rfl, rfl⟩

/-- Settles O38: packing puts each flag at its own bit, where unpacking reads it. -/
theorem flagsPackAndUnpack : Obligations.FlagsPackAndUnpack :=
  ⟨packFlags_toNat, Cpu.setF_packFlags, Cpu.f_setF⟩

end

/-! What a raw write leaves reading as before and what it stores (20_memory.md rule R82), and the stack round trip that
rests on it. -/

namespace Sys2Proof.Machine

/-! ### Reads after a raw write (20_memory.md rule R82) -/

/-- Regions with an index tell their addresses apart; only the unusable region's addresses go to one place. -/
theorem eq_of_route_eq {a x : Word} (h : route x = route a) (hu : route a ≠ .unusable) : x = a := by
  have ha := route_in_bounds a
  have hx := route_in_bounds x
  rw [h] at hx
  apply BitVec.eq_of_toNat_eq
  cases hr : route a <;> simp only [hr, Region.InBounds] at ha hx
  case unusable => exact absurd hr hu
  case interruptEnable => rw [ha, hx]
  all_goals omega

theorem eramRead_eramWrite_self {p : Params} {m : BankController} {i : Nat}
    (h : (m.ramEnable && p.eramSize != 0) = true) (v : Byte) : eramRead p (eramWrite p m i v) i = v := by
  simp_all [eramRead, eramWrite, eramIndex]

theorem eramRead_eramWrite_ne {p : Params} {m : BankController} {i j : Nat}
    (h : eramIndex p m i ≠ eramIndex p m j) (v : Byte) : eramRead p (eramWrite p m i v) j = eramRead p m j := by
  unfold eramWrite
  split
  · simp only [eramRead]
    split
    · rfl
    · exact readCell_writeCell_ne _ _ h.symm
  · rfl

theorem cartridgeRead_eramWrite (p : Params) (m : BankController) (i : Nat) (v : Byte) (a : Nat) :
    cartridgeRead p (eramWrite p m i v) a = cartridgeRead p m a := by
  unfold eramWrite; split <;> rfl

/-- Storage that keeps what it is given reads back the byte written. -/
theorem Bus.rawRead_rawWrite_self {b : Bus} {a : Word} (h : b.retains a = true) (v : Byte) :
    (b.rawWrite a v).rawRead a = v := by
  unfold Bus.retains at h
  unfold Bus.rawRead Bus.rawWrite
  cases hr : route a <;> simp only [hr] at h ⊢
  case eram => exact eramRead_eramWrite_self h v
  all_goals simp_all

theorem Bus.rawRead_rawWrite_rom {b : Bus} {a x : Word} {k : Nat} (ha : route a = .rom k)
    (hx : ¬(0x4000 ≤ x.toNat ∧ x.toNat < 0x8000) ∧ ¬(0xA000 ≤ x.toNat ∧ x.toNat < 0xC000)) (v : Byte) :
    (b.rawWrite a v).rawRead x = b.rawRead x := by
  have hbounds := route_in_bounds x
  unfold Bus.rawRead Bus.rawWrite
  simp only [ha]
  cases hr : route x <;> simp only [hr, Region.InBounds] at hbounds ⊢
  case rom j =>
    have hj : j < 0x4000 := by omega
    simp only [romRangeRead, cartridgeRead, hj, if_true]
  case eram => omega

theorem Bus.rawRead_rawWrite_eram {b : Bus} {a x : Word} {i : Nat} (ha : route a = .eram i)
    (hx : ∀ j, route x = .eram j → eramIndex b.params b.mbc i ≠ eramIndex b.params b.mbc j) (v : Byte) :
    (b.rawWrite a v).rawRead x = b.rawRead x := by
  unfold Bus.rawRead Bus.rawWrite
  simp only [ha]
  cases hr : route x <;> simp only
  case rom => simp only [romRangeRead, cartridgeRead_eramWrite]
  case eram j => exact eramRead_eramWrite_ne (hx j hr) v

theorem Bus.rawRead_rawWrite_wram {b : Bus} {a x : Word} {i : Nat} (ha : route a = .wram i ∨ route a = .echo i)
    (hx : ∀ j, route x = .wram j ∨ route x = .echo j → i ≠ j) (v : Byte) :
    (b.rawWrite a v).rawRead x = b.rawRead x := by
  have hwrite : b.rawWrite a v = { b with wram := writeCell b.wram i v } := by
    obtain ha | ha := ha <;> simp only [Bus.rawWrite, ha]
  rw [hwrite]
  unfold Bus.rawRead
  cases hr : route x <;> simp only <;> try rfl
  case wram j => exact readCell_writeCell_ne _ _ (hx j (.inl hr)).symm
  case echo j => exact readCell_writeCell_ne _ _ (hx j (.inr hr)).symm

theorem Bus.rawRead_rawWrite_io {b : Bus} {a x : Word} {i : Nat} (ha : route a = .io i) (hne : x ≠ a)
    (hx : i = ioBootMode → ¬ x.toNat ≤ 0xFF) (v : Byte) :
    (b.rawWrite a v).rawRead x = b.rawRead x := by
  have hbounds := route_in_bounds x
  have habounds := route_in_bounds a
  unfold Bus.rawRead Bus.rawWrite
  simp only [ha, Region.InBounds] at habounds ⊢
  cases hr : route x <;> simp only [hr, Region.InBounds] at hbounds ⊢ <;> try rfl
  case rom j =>
    by_cases hi : i = ioBootMode
    · have hj : ¬ j ≤ 0x00FF := by have := hx hi; omega
      simp only [romRangeRead, hj, and_false, if_false]; rfl
    · simp only [romRangeRead, Bus.ioSideEffects, hi, false_and, if_false]
  case io j =>
    exact readCell_writeCell_ne _ _ fun h => hne (BitVec.eq_of_toNat_eq (by omega))
  case interruptEnable =>
    exact readCell_writeCell_ne _ _ (by simp only [ioInterruptEnable]; omega)

theorem Bus.rawRead_rawWrite_vram {b : Bus} {a x : Word} {i : Nat} (ha : route a = .vram i)
    (hx : route x ≠ .vram i) (v : Byte) : (b.rawWrite a v).rawRead x = b.rawRead x := by
  unfold Bus.rawRead Bus.rawWrite
  simp only [ha]
  by_cases hgate : b.vramGate <;> simp only [hgate, if_true, Bool.false_eq_true, if_false]
  cases hr : route x <;> try rfl
  case vram j => exact readCell_writeCell_ne _ _ fun h => hx (by rw [hr, h])

theorem Bus.rawRead_rawWrite_oam {b : Bus} {a x : Word} {i : Nat} (ha : route a = .oam i)
    (hx : route x ≠ .oam i) (v : Byte) : (b.rawWrite a v).rawRead x = b.rawRead x := by
  unfold Bus.rawRead Bus.rawWrite
  simp only [ha]
  by_cases hgate : b.oamGate <;> simp only [hgate, if_true, Bool.false_eq_true, if_false]
  cases hr : route x <;> try rfl
  case oam j => exact readCell_writeCell_ne _ _ fun h => hx (by rw [hr, h])

theorem Bus.rawRead_rawWrite_hram {b : Bus} {a x : Word} {i : Nat} (ha : route a = .hram i)
    (hx : route x ≠ .hram i) (v : Byte) : (b.rawWrite a v).rawRead x = b.rawRead x := by
  unfold Bus.rawRead Bus.rawWrite
  simp only [ha]
  cases hr : route x <;> try rfl
  case hram j => exact readCell_writeCell_ne _ _ fun h => hx (by rw [hr, h])

theorem Bus.rawRead_rawWrite_interruptEnable {b : Bus} {a x : Word} (ha : route a = .interruptEnable)
    (hx : route x ≠ .interruptEnable) (v : Byte) : (b.rawWrite a v).rawRead x = b.rawRead x := by
  have hbounds := route_in_bounds x
  unfold Bus.rawRead Bus.rawWrite
  simp only [ha]
  cases hr : route x <;> simp only [hr, Region.InBounds] at hbounds ⊢ <;> try rfl
  case io j => exact readCell_writeCell_ne _ _ (by simp only [ioInterruptEnable]; omega)
  case interruptEnable => exact absurd hr hx

/-- Every byte a write cannot reach reads as before (20_memory.md rule R82). -/
theorem Bus.rawRead_rawWrite_of_not_aliases {b : Bus} {a x : Word} (h : b.aliases a x = false) (v : Byte) :
    (b.rawWrite a v).rawRead x = b.rawRead x := by
  have hroute : route a ≠ .unusable → x ≠ a → route x ≠ route a := fun hu hne hr => hne (eq_of_route_eq hr hu)
  unfold Bus.aliases at h
  cases ha : route a <;> simp only [ha] at h hroute
  case rom k => exact Bus.rawRead_rawWrite_rom ha (by simpa using h) v
  case eram i => exact Bus.rawRead_rawWrite_eram ha (fun j hj => by simpa [hj] using h) v
  case wram i =>
    exact Bus.rawRead_rawWrite_wram (.inl ha) (fun j hj => by obtain hj | hj := hj <;> simpa [hj] using h) v
  case echo i =>
    exact Bus.rawRead_rawWrite_wram (.inr ha) (fun j hj => by obtain hj | hj := hj <;> simpa [hj] using h) v
  case io i =>
    obtain ⟨hne, hboot⟩ : x ≠ a ∧ (i = ioBootMode → ¬ x.toNat ≤ 0xFF) := by simpa using h
    exact Bus.rawRead_rawWrite_io ha hne hboot v
  case unusable => simp only [Bus.rawWrite, ha]
  case vram i => exact Bus.rawRead_rawWrite_vram ha (hroute nofun (by simpa using h)) v
  case oam i => exact Bus.rawRead_rawWrite_oam ha (hroute nofun (by simpa using h)) v
  case hram i => exact Bus.rawRead_rawWrite_hram ha (hroute nofun (by simpa using h)) v
  case interruptEnable => exact Bus.rawRead_rawWrite_interruptEnable ha (hroute nofun (by simpa using h)) v

/-! ### Two neighbouring bytes of storage -/

/-- A raw write changes neither the claims nor the guard, so it forwards the same addresses. -/
@[simp] theorem Bus.rawWrite_forwardsTo (b : Bus) (a : Word) (v : Byte) (x : Word) :
    (b.rawWrite a v).forwardsTo x = b.forwardsTo x := by
  have hhandlers : (b.rawWrite a v).handlerAt = b.handlerAt := congrArg HostSide.handlerAt (b.rawWrite_hostSide a v)
  simp only [Bus.forwardsTo, hhandlers, Bus.rawWrite_guard]

@[simp] theorem Bus.rawWrite_params (b : Bus) (a : Word) (v : Byte) : (b.rawWrite a v).params = b.params :=
  congrArg HostSide.params (b.rawWrite_hostSide a v)

/-- Outside the ROM range a write leaves the RAM enable as it is (20_memory.md rule R74). -/
theorem Bus.rawWrite_ramEnable {b : Bus} {a : Word} (h : ∀ k, route a ≠ .rom k) (v : Byte) :
    (b.rawWrite a v).mbc.ramEnable = b.mbc.ramEnable := by
  unfold Bus.rawWrite
  cases ha : route a <;> simp only
  case rom k => exact absurd ha (h k)
  case eram => unfold eramWrite; split <;> rfl
  case vram | oam => split <;> rfl
  case io => rfl

theorem Bus.rawWrite_retains {b : Bus} {a : Word} (h : b.retains a = true) (v : Byte) (x : Word) :
    (b.rawWrite a v).retains x = b.retains x := by
  have hnotRom : ∀ k, route a ≠ .rom k := by
    intro k hk
    simp [Bus.retains, hk] at h
  have hhost := b.rawWrite_hostSide a v
  simp only [Bus.hostSide, HostSide.mk.injEq] at hhost
  obtain ⟨hparams, hvram, hoam, _⟩ := hhost
  simp only [Bus.retains, hparams, hvram, hoam, Bus.rawWrite_ramEnable hnotRom]

theorem mod_ne_succ_mod {n : Nat} (hn : n ≠ 1) (k : Nat) : k % n ≠ (k + 1) % n := fun h =>
  hn (Nat.dvd_one.mp (by simpa using (Nat.modEq_iff_dvd' (Nat.le_succ k)).mp h))

/-- Neighbours in an external RAM of more than one byte are different bytes of it. -/
theorem eramIndex_ne_succ {p : Params} (hp : p.eramSize ≠ 1) (m : BankController) (i : Nat) :
    eramIndex p m i ≠ eramIndex p m (i + 1) := by
  unfold eramIndex
  rw [← Nat.add_assoc]
  exact mod_ne_succ_mod hp _

/-- A byte of storage and the next one are different bytes, unless the storage is an external RAM of one byte. -/
theorem Bus.not_aliases_succ {b : Bus} {a : Word} (ha : b.retains a = true)
    (hsize : b.params.eramSize ≠ 1) : b.aliases a (a + 1) = false := by
  have hlow := route_in_bounds a
  have hhigh := route_in_bounds (a + 1)
  have hnext : (a + 1).toNat = (a.toNat + 1) % 65536 := by simp [BitVec.toNat_add]
  have hne : a + 1 ≠ a := by bv_omega
  have hlt := a.isLt
  unfold Bus.aliases
  cases ra : route a <;> simp only [ra, Bus.retains, Region.InBounds, Bool.false_eq_true] at ha hlow ⊢
  case vram | oam | hram | interruptEnable => simp
  case eram i =>
    cases rx : route (a + 1) <;> simp only [rx, Region.InBounds] at hhigh ⊢
    case eram j =>
      obtain rfl : j = i + 1 := by omega
      simpa using eramIndex_ne_succ hsize b.mbc i
  case wram i | echo i =>
    cases rx : route (a + 1) <;> simp only [rx, Region.InBounds, beq_eq_false_iff_ne] at hhigh ⊢ <;> omega
  case io i =>
    have hboot : i = ioBootMode → 0xFF < (a + 1).toNat := by
      rintro rfl
      simp only [ioBootMode] at hlow
      omega
    simpa [hne] using hboot

/-- Two neighbouring bytes of storage written from the top down read back, and reading them changes nothing. -/
theorem Bus.read_write_write {b : Bus} {a : Word} (hu : b.forwardsTo a = none) (hu' : b.forwardsTo (a + 1) = none)
    (hr : b.retains a = true) (hr' : b.retains (a + 1) = true) (hsize : b.params.eramSize ≠ 1) (hi lo : Byte) :
    let c := (b.write (a + 1) hi).write a lo
    c.read a = (lo, c) ∧ c.read (a + 1) = (hi, c) := by
  rw [Bus.write_of_unclaimed hu', Bus.write_of_unclaimed (by simpa using hu)]
  have hr₁ : (b.rawWrite (a + 1) hi).retains a = true := by rwa [Bus.rawWrite_retains hr']
  have halias := Bus.not_aliases_succ hr₁ (by simpa using hsize)
  constructor
  · rw [Bus.read_of_unclaimed (by simpa using hu), Bus.rawRead_rawWrite_self hr₁]
  · rw [Bus.read_of_unclaimed (by simpa using hu'), Bus.rawRead_rawWrite_of_not_aliases halias,
      Bus.rawRead_rawWrite_self hr']

/-! ### Push and pop -/

@[simp] theorem Cpu.setStackPair_stackPair (s : Cpu) (qq : StackPair) : s.setStackPair qq (s.stackPair qq) = s := by
  cases qq with
  | bc => simp [Cpu.setStackPair, Cpu.stackPair, Cpu.setBc, Cpu.bc]
  | de => simp [Cpu.setStackPair, Cpu.stackPair, Cpu.setDe, Cpu.de]
  | hl => simp [Cpu.setStackPair, Cpu.stackPair, Cpu.setHl, Cpu.hl]
  | af => simp [Cpu.setStackPair, Cpu.stackPair, Cpu.setAf, Cpu.af, Cpu.setF_f]

theorem pop_of_pop16 {s t : State} {qq : StackPair} {v : Word} (h : s.pop16 = (v, t)) :
    pop qq s = t.done (t.cpu.setStackPair qq v) 12 := by
  simp only [pop, h]

/-- Where both stack bytes are unclaimed storage, a pop gives back what was pushed, and the registers. -/
theorem State.pop16_push16 {s : State} (hu : s.bus.forwardsTo (s.cpu.sp - 1) = none)
    (hu' : s.bus.forwardsTo (s.cpu.sp - 2) = none) (hr : s.bus.retains (s.cpu.sp - 1) = true)
    (hr' : s.bus.retains (s.cpu.sp - 2) = true) (hsize : s.bus.params.eramSize ≠ 1) (v : Word) :
    (s.push16 v).pop16 = (v, { s.push16 v with cpu := s.cpu }) := by
  have hsp : s.cpu.sp - 1 - 1 = s.cpu.sp - 2 := by bv_omega
  have hsp₁ : s.cpu.sp - 2 + 1 = s.cpu.sp - 1 := by bv_omega
  rw [← hsp₁] at hu hr
  obtain ⟨hlo, hhi⟩ := Bus.read_write_write hu' hu hr' hr hsize (highByte v) (lowByte v)
  rw [hsp₁] at hlo hhi
  have hcpu : (s.push16 v).pop16.2.cpu = s.cpu := by simp
  have hbus : (s.push16 v).pop16.2.bus = (s.push16 v).bus := by
    simp only [State.pop16_bus, State.push16_bus, State.push16_cpu, hsp, hsp₁, hlo, hhi]
  have hword : (s.push16 v).pop16.1 = v := by
    simp only [State.pop16_fst, State.push16_bus, State.push16_cpu, hsp, hsp₁, hlo, hhi, imm16_lowByte_highByte]
  exact Prod.ext hword (congrArg₂ (State.mk · · s.cost) hcpu hbus)

end Sys2Proof.Machine

section
open Sys2Proof Sys2Proof.Machine

/-- Settles O37: the pop reads back the two bytes the push wrote, and a pair written with its own value is itself. -/
theorem pushPopRoundTrip : Obligations.PushPopRoundTrip := by
  intro i j qq s t hi hj hu hu' hr hr' hsize ht
  rw [exec_of_form hi] at ht
  obtain rfl := Host.Outcome.next.inj ht
  have hpop := State.pop16_push16 (s := { s with cost := 16 }) hu hu' hr hr' hsize (s.cpu.stackPair qq)
  refine ⟨_, (exec_of_form hj _).trans (pop_of_pop16 hpop), ?_, rfl⟩
  exact Cpu.setStackPair_stackPair s.cpu qq
end

/-! What an instruction leaves unchanged in the register file, said once per operation on the registers and then for
each form of instruction. -/

namespace Sys2Proof

/-! ### Rows known by their form -/

theorem Instr.eq_prefixCb_of_form {i : Instr} (h : i.form = .escape) : i = .prefixCb := by
  cases i with
  | prefixCb => rfl
  | _ => cases h

theorem Instr.eq_di_of_form {i : Instr} (h : i.form = .di) : i = .di := by
  cases i with
  | di => rfl
  | _ => cases h

/-- The row of the instructions that write no flag (10_state.md rule R16). -/
def FlagRow.keep : FlagRow := ⟨.unchanged, .unchanged, .unchanged, .unchanged⟩

end Sys2Proof

namespace Sys2Proof.Machine

/-! ### The registers of the next state -/

/-- The registers of the next state, where the outcome is one, satisfy `P`. -/
def NextCpu (P : Cpu → Prop) (r : Result) : Prop := ∀ t, r = .next t → P t.cpu

theorem NextCpu.done {P : Cpu → Prop} {s : State} {cpu : Cpu} {n : Nat} (h : P cpu) : NextCpu P (s.done cpu n) := by
  rintro _ ⟨rfl⟩; exact h

theorem NextCpu.ite {P : Cpu → Prop} {c : Prop} [Decidable c] {r r' : Result} (h : NextCpu P r) (h' : NextCpu P r') :
    NextCpu P (if c then r else r') := by
  split
  · exact h
  · exact h'

theorem NextCpu.unassigned (P : Cpu → Prop) (op : Byte) (s : State) : NextCpu P (unassigned op s) := by
  simp [NextCpu, Machine.unassigned]

/-! ### What the register operations leave unchanged -/

/-- `t` differs from `s` at most in what the rule of `f` lets it write, flags apart (10_state.md rules R10, R14 to R19).
The lemmas below follow an instruction's updates one by one; where an update needs the form to allow it, the form's own
tables say so by computation, which is the default argument. -/
structure Cpu.FramedBy (s : Cpu) (f : Form) (t : Cpu) : Prop where
  reg : ∀ r, r ∉ f.registers → t.reg r = s.reg r
  sp : f.writesSp = false → t.sp = s.sp
  pc : f.transfers = false → t.pc = s.pc
  ime : f ≠ .di ∧ f ≠ .reti → t.ime = s.ime
  eiDelay : f ≠ .di ∧ f ≠ .reti ∧ f ≠ .ei → t.eiDelay = s.eiDelay
  run : f ≠ .halt → t.run = s.run

namespace Cpu.FramedBy
variable {s t : Cpu} {f : Form}

theorem self {s : Cpu} {f : Form} : s.FramedBy f s :=
  ⟨fun _ _ => rfl, fun _ => rfl, fun _ => rfl, fun _ => rfl, fun _ => rfl, fun _ => rfl⟩

/-- The flags have a frame of their own (`Cpu.FlagsBy`). -/
theorem flags (h : s.FramedBy f t) {z n hc c : Bool} : s.FramedBy f { t with fZ := z, fN := n, fH := hc, fC := c } :=
  ⟨h.reg, h.sp, h.pc, h.ime, h.eiDelay, h.run⟩

theorem setReg (h : s.FramedBy f t) (r : Reg8) (hr : r ∈ f.registers := by exact .head _) {v : Byte} :
    s.FramedBy f (t.setReg r v) where
  reg q hq := by
    have hne : q ≠ r := fun heq => hq (by rwa [heq])
    rw [Cpu.reg_setReg, if_neg hne, h.reg q hq]
  sp hf := by rw [Cpu.setReg_sp, h.sp hf]
  pc hf := by rw [Cpu.setReg_pc, h.pc hf]
  ime hf := by rw [Cpu.setReg_ime, h.ime hf]
  eiDelay hf := by rw [Cpu.setReg_eiDelay, h.eiDelay hf]
  run hf := by rw [Cpu.setReg_run, h.run hf]

theorem setSp (h : s.FramedBy f t) (hf : f.writesSp = true := by rfl) {v : Word} : s.FramedBy f { t with sp := v } :=
  ⟨h.reg, fun hf' => absurd (hf.symm.trans hf') nofun, h.pc, h.ime, h.eiDelay, h.run⟩

theorem setPc (h : s.FramedBy f t) (hf : f.transfers = true := by rfl) {v : Word} : s.FramedBy f { t with pc := v } :=
  ⟨h.reg, h.sp, fun hf' => absurd (hf.symm.trans hf') nofun, h.ime, h.eiDelay, h.run⟩

theorem setEnables (h : s.FramedBy f t) (hf : f = .di ∨ f = .reti) {i e : Bool} :
    s.FramedBy f { t with ime := i, eiDelay := e } :=
  ⟨h.reg, h.sp, h.pc, fun ⟨hdi, hreti⟩ => (hf.elim hdi hreti).elim, fun ⟨hdi, hreti, _⟩ => (hf.elim hdi hreti).elim,
    h.run⟩

theorem setEiDelay (h : s.FramedBy f t) (hf : f = .ei := by rfl) {e : Bool} : s.FramedBy f { t with eiDelay := e } :=
  ⟨h.reg, h.sp, h.pc, h.ime, fun ⟨_, _, hei⟩ => absurd hf hei, h.run⟩

theorem setRun (h : s.FramedBy f t) (hf : f = .halt := by rfl) {v : RunState} : s.FramedBy f { t with run := v } :=
  ⟨h.reg, h.sp, h.pc, h.ime, h.eiDelay, fun hf' => absurd hf hf'⟩

theorem setBc (h : s.FramedBy f t) (hr : [.b, .c] ⊆ f.registers := by exact List.Subset.refl _) {v : Word} :
    s.FramedBy f (t.setBc v) :=
  (h.setReg .b (hr (by simp)) (v := highByte v)).setReg .c (hr (by simp)) (v := lowByte v)

theorem setDe (h : s.FramedBy f t) (hr : [.d, .e] ⊆ f.registers := by exact List.Subset.refl _) {v : Word} :
    s.FramedBy f (t.setDe v) :=
  (h.setReg .d (hr (by simp)) (v := highByte v)).setReg .e (hr (by simp)) (v := lowByte v)

theorem setHl (h : s.FramedBy f t) (hr : [.h, .l] ⊆ f.registers := by exact List.Subset.refl _) {v : Word} :
    s.FramedBy f (t.setHl v) :=
  (h.setReg .h (hr (by simp)) (v := highByte v)).setReg .l (hr (by simp)) (v := lowByte v)

theorem setPair (h : s.FramedBy f t) {rr : Pair} (hr : rr.halves ⊆ f.registers := by exact List.Subset.refl _)
    (hsp : rr = .sp → f.writesSp = true := by exact beq_iff_eq.mpr) {v : Word} : s.FramedBy f (t.setPair rr v) := by
  cases rr with
  | bc => exact h.setBc hr
  | de => exact h.setDe hr
  | hl => exact h.setHl hr
  | sp => exact h.setSp (hsp rfl)

theorem setStackPair (h : s.FramedBy f t) {qq : StackPair}
    (hr : qq.halves ⊆ f.registers := by exact List.Subset.refl _) {v : Word} : s.FramedBy f (t.setStackPair qq v) := by
  cases qq with
  | bc => exact h.setBc hr
  | de => exact h.setDe hr
  | hl => exact h.setHl hr
  | af => exact (h.setReg .a (hr (by simp [StackPair.halves])) (v := highByte v)).flags

theorem ptrAfter (h : s.FramedBy f t) {p : Ptr} (hr : p.moved ⊆ f.registers := by exact List.Subset.refl _) :
    s.FramedBy f (t.ptrAfter p) := by
  cases p with
  | bc => exact h
  | de => exact h
  | hlInc => exact h.setHl hr
  | hlDec => exact h.setHl hr

theorem readOpnd {s : State} (o : Opnd8) : s.cpu.FramedBy f (s.readOpnd o).2.cpu := by
  rw [State.readOpnd_cpu]; exact self

theorem readSrc {s : State} (src : AluSrc) : s.cpu.FramedBy f (s.readSrc src).2.cpu := by
  rw [State.readSrc_cpu]; exact self

/-- Reading and then writing an operand. -/
theorem updateOpnd {s : State} (o : Opnd8) (hr : o.registers ⊆ f.registers := by exact List.Subset.refl _) {v : Byte} :
    s.cpu.FramedBy f ((s.readOpnd o).2.writeOpnd o v).cpu := by
  cases o with
  | reg r => exact self.setReg r (hr (.head _))
  | memHl => exact self

end Cpu.FramedBy

section
open Cpu.FramedBy (self readOpnd readSrc updateOpnd)

/-- Every instruction but the escape row writes only the registers its rule names. -/
theorem runForm_framed (f : Form) (hf : f ≠ .escape) (s : State) : NextCpu (s.cpu.FramedBy f) (runForm f s) := by
  cases f with
  | nop | stop => exact .done self
  | halt => exact .done self.setRun
  | di => exact .done (self.setEnables (.inl rfl))
  | ei =>
    refine .done ?_
    split
    · exact self
    · exact self.setEiDelay
  | ldRegReg dst src => exact .done (self.setReg dst)
  | ldRegImm r d8 => exact .done (self.setReg r)
  | ldRegMem dst => exact .done (self.setReg dst)
  | ldMemReg r => exact .done self
  | ldMemImm d8 => exact .done self
  | ldAPtr p => exact .done ((self.setReg .a).ptrAfter (List.subset_cons_self ..))
  | ldPtrA p => exact .done self.ptrAfter
  | ldAAbs a16 => exact .done (self.setReg .a)
  | ldAbsA a16 => exact .done self
  | ldhStore a8 => exact .done self
  | ldhLoad a8 => exact .done (self.setReg .a)
  | ldHighCA => exact .done self
  | ldAHighC => exact .done (self.setReg .a)
  | ldPairImm rr d16 => exact .done self.setPair
  | ldSpHl => exact .done self.setSp
  | ldAbsSp a16 => exact .done self
  | push qq => exact .done self.setSp
  | pop qq => exact .done self.setSp.setStackPair
  | ldHlSp r8 => exact .done self.setHl.flags
  | alu op src =>
    cases op with
    | cp => exact .done (readSrc src).flags
    | _ => exact .done ((readSrc src).setReg .a).flags
  | inc8 o => exact .done (updateOpnd o).flags
  | dec8 o => exact .done (updateOpnd o).flags
  | daa => exact .done (self.setReg .a).flags
  | cpl => exact .done (self.setReg .a).flags
  | scf => exact .done self.flags
  | ccf => exact .done self.flags
  | addHl rr => exact .done self.setHl.flags
  | inc16 rr => exact .done self.setPair
  | dec16 rr => exact .done self.setPair
  | addSp r8 => exact .done self.setSp.flags
  | rotA op => exact .done (self.setReg .a).flags
  | shift op o => exact .done (updateOpnd o).flags
  | bit b o => exact .done (readOpnd o).flags
  | res b o => exact .done (updateOpnd o)
  | set b o => exact .done (updateOpnd o)
  | jp a16 => exact .done self.setPc
  | jpCc cc a16 => exact .ite (.done self.setPc) (.done self)
  | jr r8 => exact .done self.setPc
  | jrCc cc r8 => exact .ite (.done self.setPc) (.done self)
  | jpHl => exact .done self.setPc
  | call a16 => exact .done self.setSp.setPc
  | callCc cc a16 => exact .ite (.done self.setSp.setPc) (.done self)
  | rst t => exact .done self.setSp.setPc
  | ret => exact .done self.setSp.setPc
  | retCc cc => exact .ite (.done self.setSp.setPc) (.done self)
  | reti =>
    have hpop : s.cpu.FramedBy .reti { s.pop16.2.cpu with pc := s.pop16.1 } := self.setSp.setPc
    exact .done (hpop.setEnables (.inr rfl))
  | escape => exact absurd rfl hf
  | unassigned op => exact NextCpu.unassigned _ _ _

end

/-! ### The flags of the next state -/

/-- The flags of `t` are what a row of the table of 10_state.md rule R16 makes of those of `s`. -/
def Cpu.FlagsBy (s : Cpu) (row : FlagRow) (t : Cpu) : Prop :=
  row.z.allows s.fZ t.fZ ∧ row.n.allows s.fN t.fN ∧ row.h.allows s.fH t.fH ∧ row.c.allows s.fC t.fC

namespace Cpu

theorem flagsBy_keep (s : Cpu) : s.FlagsBy FlagRow.keep s := ⟨rfl, rfl, rfl, rfl⟩

theorem setReg_flagsBy_keep (s : Cpu) (r : Reg8) (v : Byte) : s.FlagsBy FlagRow.keep (s.setReg r v) :=
  ⟨setReg_fZ .., setReg_fN .., setReg_fH .., setReg_fC ..⟩

theorem setPair_flagsBy_keep (s : Cpu) (rr : Pair) (v : Word) : s.FlagsBy FlagRow.keep (s.setPair rr v) := by
  cases rr <;> exact flagsBy_keep s

theorem ptrAfter_flagsBy_keep (s : Cpu) (p : Ptr) : s.FlagsBy FlagRow.keep (s.ptrAfter p) := by
  cases p <;> exact flagsBy_keep s

end Cpu

theorem State.readOpnd_flagsBy_keep (s : State) (o : Opnd8) : s.cpu.FlagsBy FlagRow.keep (s.readOpnd o).2.cpu := by
  rw [State.readOpnd_cpu]; exact s.cpu.flagsBy_keep

theorem State.updateOpnd_flagsBy_keep (s : State) (o : Opnd8) (v : Byte) :
    s.cpu.FlagsBy FlagRow.keep ((s.readOpnd o).2.writeOpnd o v).cpu := by
  cases o with
  | reg r => exact s.cpu.setReg_flagsBy_keep r v
  | memHl => exact s.cpu.flagsBy_keep

section
open Cpu

/-- Every instruction but the escape row does to each flag what its row of the table says. -/
theorem runForm_flags (f : Form) (hf : f ≠ .escape) (s : State) : NextCpu (s.cpu.FlagsBy f.flagRow) (runForm f s) := by
  cases f with
  | nop | halt | stop | di => exact .done (flagsBy_keep _)
  | ei => exact .done (by split <;> exact flagsBy_keep _)
  | ldRegReg | ldRegImm | ldRegMem => exact .done (setReg_flagsBy_keep ..)
  | ldAPtr p => exact .done (ptrAfter_flagsBy_keep _ p)
  | ldPtrA p => exact .done (ptrAfter_flagsBy_keep _ p)
  | ldPairImm | inc16 | dec16 => exact .done (setPair_flagsBy_keep ..)
  | ldMemReg | ldMemImm | ldAAbs | ldAbsA | ldhStore | ldhLoad | ldHighCA | ldAHighC | ldSpHl | ldAbsSp | push =>
    exact .done (flagsBy_keep _)
  | pop qq =>
    cases qq with
    | af => exact .done ⟨trivial, trivial, trivial, trivial⟩
    | _ => exact .done (flagsBy_keep _)
  | ldHlSp | addSp => exact .done ⟨rfl, rfl, trivial, trivial⟩
  | alu op src =>
    cases op with
    | and | xor | or => exact .done ⟨trivial, rfl, rfl, rfl⟩
    | _ => exact .done ⟨trivial, rfl, trivial, trivial⟩
  | inc8 o =>
    obtain ⟨_, _, _, hcarry⟩ := s.updateOpnd_flagsBy_keep o ((s.readOpnd o).1 + 1)
    exact .done ⟨trivial, rfl, trivial, hcarry⟩
  | dec8 o =>
    obtain ⟨_, _, _, hcarry⟩ := s.updateOpnd_flagsBy_keep o ((s.readOpnd o).1 - 1)
    exact .done ⟨trivial, rfl, trivial, hcarry⟩
  | daa => exact .done ⟨trivial, rfl, rfl, trivial⟩
  | cpl => exact .done ⟨rfl, rfl, rfl, rfl⟩
  | scf => exact .done ⟨rfl, rfl, rfl, rfl⟩
  | ccf => exact .done ⟨rfl, rfl, rfl, trivial⟩
  | addHl rr => exact .done ⟨rfl, rfl, trivial, trivial⟩
  | rotA op => exact .done ⟨rfl, rfl, rfl, trivial⟩
  | shift op o =>
    cases op with
    | swap => exact .done ⟨trivial, rfl, rfl, rfl⟩
    | _ => exact .done ⟨trivial, rfl, rfl, trivial⟩
  | bit b o =>
    obtain ⟨_, _, _, hcarry⟩ := s.readOpnd_flagsBy_keep o
    exact .done ⟨trivial, rfl, rfl, hcarry⟩
  | res | set => exact .done (s.updateOpnd_flagsBy_keep ..)
  | jp | jr | jpHl | call | rst | ret | reti => exact .done (flagsBy_keep _)
  | jpCc | jrCc | callCc | retCc => exact .ite (.done (flagsBy_keep _)) (.done (flagsBy_keep _))
  | escape => exact absurd rfl hf
  | unassigned op => exact NextCpu.unassigned _ _ _

end

end Sys2Proof.Machine

section
open Sys2Proof Sys2Proof.Machine

/-- Settles O55: an instruction is its form's operation, and each form keeps to its row of the table. -/
theorem flagFrame : Obligations.FlagFrame := by
  intro i s t hi hexec
  rw [exec_eq_runForm] at hexec
  exact runForm_flags i.form (fun h => hi (Instr.eq_prefixCb_of_form h)) s t hexec

/-- Settles O56: an instruction is its form's operation, and each form writes only what its rule names. -/
theorem registerFrame : Obligations.RegisterFrame := by
  intro i s t hi hexec
  rw [exec_eq_runForm] at hexec
  obtain ⟨hreg, hsp, hpc, hime, hei, hrun⟩ :=
    runForm_framed i.form (fun h => hi (Instr.eq_prefixCb_of_form h)) s t hexec
  exact ⟨hreg, hsp, hpc, hime, hei, hrun⟩

end

/-! The pending enable of `EI` across one step (10_state.md rule R18): which instruction a step fetches, and what its
end settles. -/

/-! ### The bare escape row is never fetched -/

namespace Sys2Proof

/-- The row gives no instruction that is the bare escape row. -/
def Row.Complete : Row → Prop
  | .one i => i ≠ .prefixCb
  | .imm8 f => ∀ b, f b ≠ .prefixCb
  | .imm16 f => ∀ w, f w ≠ .prefixCb
  | .escape => True

theorem primaryTable_complete : ∀ row ∈ primaryTable, row.Complete := by
  simp only [primaryTable, List.forall_mem_append, primary0, primary1, primary2, primary3, primary4, primary5, primary6,
    primary7, primary8, primary9, primaryA, primaryB, primaryC, primaryD, primaryE, primaryF, List.forall_mem_cons,
    List.not_mem_nil, Row.Complete, ne_eq, reduceCtorEq, not_false_eq_true, implies_true, and_self, false_implies]

theorem primaryRow_complete (op : Byte) : (primaryRow op).Complete := by
  unfold primaryRow
  by_cases h : op.toNat < primaryTable.length
  · rw [List.getD_eq_getElem _ _ h]
    exact primaryTable_complete _ (List.getElem_mem h)
  · rw [List.getD_eq_default _ _ (Nat.le_of_not_lt h)]
    trivial

/-- Only an escape byte decodes to the bare escape row. -/
theorem primaryRow_of_decode_prefixCb {op : Byte} {rest left : List Byte}
    (h : decode (op :: rest) = .ok (.prefixCb, left)) : primaryRow op = .escape := by
  have hrow := primaryRow_complete op
  simp only [decode] at h
  revert h hrow
  cases primaryRow op with
  | one i => intro h hrow; cases h; exact absurd rfl hrow
  | imm8 f =>
    cases rest with
    | nil => intro h; cases h
    | cons b _ => intro h hrow; exact absurd (congrArg Prod.fst (Except.ok.inj h)) (hrow b)
  | imm16 f =>
    match rest with
    | [] | [_] => intro h; cases h
    | b1 :: b2 :: _ => intro h hrow; exact absurd (congrArg Prod.fst (Except.ok.inj h)) (hrow _)
  | escape => exact fun _ _ => rfl

theorem secondaryRow_form (op2 : Byte) : (secondaryRow op2).form = secondaryForm op2 := by
  revert op2; decide

end Sys2Proof

namespace Sys2Proof.Machine

/-- While `IME` is false a running machine takes no interrupt; the two reads of the test change nothing where no handler
claims `IF` (60_exceptions.md rule R274). -/
theorem State.beginStep_of_masked {s : State} (hrun : s.cpu.run = .running) (hime : s.cpu.ime = false)
    (hif : s.bus.forwardsTo addrInterruptFlag = none) : s.beginStep = .inr s := by
  have hie : s.bus.forwardsTo addrInterruptEnable = none := Bus.forwardsTo_of_not_io (route_ne_io (by decide))
  have htest : s.interruptTest.2.2 = s := by
    simp [State.interruptTest, State.read, Bus.read_of_unclaimed hie, Bus.read_of_unclaimed hif]
  have hwake : ({ s with cpu := { s.cpu with run := .running } } : State) = s := by rw [← hrun]
  unfold State.beginStep
  simp only [htest]
  rw [if_neg (by simp [hrun]), if_neg (by simp [hime]), hwake]

/-- A step that goes on from `u` to execute an instruction ends by settling the enable pending in `u`. -/
theorem step_executes {s t u : State} (hbegin : s.beginStep = .inr u) (h : step s = .next t) :
    ∃ v, exec u.fetchInstr.1 u.fetchInstr.2 = .next v ∧ t = v.settleEnable u.cpu.eiDelay := by
  unfold step at h
  rw [hbegin] at h
  simp only at h
  split at h
  · next v hv => exact ⟨v, hv, (Host.Outcome.next.inj h).symm⟩
  · cases h
  · cases h

theorem State.fetchInstr_of_escape {s : State} (h : primaryRow s.fetch8.1 = .escape) :
    s.fetchInstr = (secondaryRow s.fetch8.2.fetch8.1, s.fetch8.2.fetch8.2) := by
  simp only [State.fetchInstr, h]

/-- What is fetched where the bytes decode to `i`: `i` itself, but for the bare escape row, which is never fetched
alone. -/
theorem State.fetchInstr_cases {s : State} {n : Nat} {i : Instr} (hu : s.codeUnclaimed n)
    (hd : decode (s.codeBytes n) = .ok (i, [])) :
    i ≠ .prefixCb ∧ s.fetchInstr.1 = i ∨ i = .prefixCb ∧ ∃ op2, s.fetchInstr.1 = secondaryRow op2 := by
  by_cases hi : i = .prefixCb
  · subst hi
    cases n with
    | zero => cases hd
    | succ n =>
      rw [State.codeBytes_succ] at hd
      have hrow : primaryRow s.fetch8.1 = .escape := by
        rw [State.fetch8_of_unclaimed (State.codeUnclaimed_head hu)]
        exact primaryRow_of_decode_prefixCb hd
      exact .inr ⟨rfl, _, by rw [State.fetchInstr_of_escape hrow]⟩
  · exact .inl ⟨hi, by rw [State.fetchInstr_of_decode hu hd hi]⟩

/-- After an instruction run with an enable pending and `IME` false: `DI` and `RETI` leave none pending and `IME` as
they say, every other instruction leaves it pending (10_state.md rule R18). -/
theorem runForm_pending {f : Form} {s v : State} (hf : f ≠ .escape) (hei : s.cpu.eiDelay = true)
    (hime : s.cpu.ime = false) (h : runForm f s = .next v) :
    f ≠ .di ∧ v.cpu.eiDelay = true ∨ v.cpu.eiDelay = false ∧ v.cpu.ime = !decide (f = .di) := by
  have hframe := runForm_framed f hf s v h
  by_cases hdi : f = .di
  · subst hdi
    obtain rfl := Host.Outcome.next.inj h
    exact .inr ⟨rfl, rfl⟩
  by_cases hreti : f = .reti
  · subst hreti
    obtain rfl := Host.Outcome.next.inj h
    exact .inr ⟨rfl, rfl⟩
  refine .inl ⟨hdi, ?_⟩
  by_cases hform : f = .ei
  · subst hform
    obtain rfl := Host.Outcome.next.inj h
    simp [hime]
  · rw [hframe.eiDelay ⟨hdi, hreti, hform⟩, hei]

/-- The end of the step makes a pending enable take effect. -/
theorem State.settleEnable_pending {v : State} (h : v.cpu.eiDelay = true) :
    (v.settleEnable true).cpu = { v.cpu with ime := true, eiDelay := false } := by
  simp [State.settleEnable, h]

theorem State.settleEnable_none {v : State} (h : v.cpu.eiDelay = false) (arm : Bool) : v.settleEnable arm = v := by
  simp [State.settleEnable, h]

/-- With an enable pending and `IME` false, running an instruction and settling leaves none pending, and `IME` true
unless the instruction was `DI`. -/
theorem runForm_settles {f : Form} {s v : State} (hf : f ≠ .escape) (hei : s.cpu.eiDelay = true)
    (hime : s.cpu.ime = false) (h : runForm f s = .next v) :
    (v.settleEnable true).cpu.eiDelay = false ∧ (v.settleEnable true).cpu.ime = !decide (f = .di) := by
  obtain ⟨hdi, hpending⟩ | ⟨hnone, hime'⟩ := runForm_pending hf hei hime h
  · simp [State.settleEnable_pending hpending, hdi]
  · rw [State.settleEnable_none hnone]
    exact ⟨hnone, hime'⟩

/-- The instruction fetched is no bare escape row, and is `DI` exactly if the bytes decode to `DI`. -/
theorem State.fetchInstr_form {s : State} {n : Nat} {i : Instr} (hu : s.codeUnclaimed n)
    (hd : decode (s.codeBytes n) = .ok (i, [])) :
    s.fetchInstr.1.form ≠ .escape ∧ (s.fetchInstr.1.form = .di ↔ i = .di) := by
  obtain ⟨hi, hfetch⟩ | ⟨rfl, op2, hfetch⟩ := State.fetchInstr_cases hu hd <;> rw [hfetch]
  · exact ⟨fun h => hi (Instr.eq_prefixCb_of_form h), Instr.eq_di_of_form, fun h => by rw [h]; rfl⟩
  · rw [secondaryRow_form]
    unfold secondaryForm
    simp only
    split <;> exact ⟨nofun, nofun, nofun⟩

end Sys2Proof.Machine

section
open Sys2Proof Sys2Proof.Machine

/-- Settles O12: the step goes straight to the instruction, which leaves the enable pending for the end of the step to
settle, unless it is `DI` or `RETI`. -/
theorem enableTakesEffectNextStep : Obligations.EnableTakesEffectNextStep := by
  intro s t n i hrun hei hime hif hu hd hstep
  obtain ⟨hescape, hdi⟩ := State.fetchInstr_form hu hd
  obtain ⟨v, hexec, rfl⟩ := step_executes (State.beginStep_of_masked hrun hime hif) hstep
  obtain ⟨pc, hcpu⟩ := s.fetchInstr_cpu
  rw [exec_eq_runForm] at hexec
  obtain ⟨hpending, hime'⟩ := runForm_settles hescape (by rw [hcpu]; exact hei) (by rw [hcpu]; exact hime) hexec
  rw [hei]
  refine ⟨hpending, hime'.trans ?_⟩
  by_cases h : i = .di <;> simp [h, hdi]

end

/-! The regions of the address map, one by one (20_memory.md rules R40 to R53): where each address goes, and what a read
and a write of each region but the I/O window are. -/

namespace Sys2Proof.Machine

/-! ### The rows of the map (20_memory.md rule R40) -/

section
variable {a : Word}

theorem route_rom (h : a.toNat < 0x8000) : route a = .rom a.toNat := if_pos h

theorem route_vram (h : 0x8000 ≤ a.toNat ∧ a.toNat < 0xA000) : route a = .vram (a.toNat - 0x8000) := by
  simp (disch := omega) only [route, if_neg, if_pos]

theorem route_eram (h : 0xA000 ≤ a.toNat ∧ a.toNat < 0xC000) : route a = .eram (a.toNat - 0xA000) := by
  simp (disch := omega) only [route, if_neg, if_pos]

theorem route_wram (h : 0xC000 ≤ a.toNat ∧ a.toNat < 0xE000) : route a = .wram (a.toNat - 0xC000) := by
  simp (disch := omega) only [route, if_neg, if_pos]

theorem route_echo (h : 0xE000 ≤ a.toNat ∧ a.toNat < 0xFE00) : route a = .echo (a.toNat - 0xE000) := by
  simp (disch := omega) only [route, if_neg, if_pos]

theorem route_oam (h : 0xFE00 ≤ a.toNat ∧ a.toNat < 0xFEA0) : route a = .oam (a.toNat - 0xFE00) := by
  simp (disch := omega) only [route, if_neg, if_pos]

theorem route_unusable (h : 0xFEA0 ≤ a.toNat ∧ a.toNat < 0xFF00) : route a = .unusable := by
  simp (disch := omega) only [route, if_neg, if_pos]

theorem route_io (h : 0xFF00 ≤ a.toNat ∧ a.toNat < 0xFF80) : route a = .io (a.toNat - 0xFF00) := by
  simp (disch := omega) only [route, if_neg, if_pos]

theorem route_hram (h : 0xFF80 ≤ a.toNat ∧ a.toNat < 0xFFFF) : route a = .hram (a.toNat - 0xFF80) := by
  simp (disch := omega) only [route, if_neg, if_pos]

theorem route_interruptEnable (h : a.toNat = 0xFFFF) : route a = .interruptEnable := by
  simp (disch := omega) only [route, if_neg]

/-! ### Accesses outside the I/O window -/

variable {b : Bus} {r : Region}

theorem Bus.forwardsTo_of_route (h : route a = r) (hr : ∀ i, r ≠ .io i) : b.forwardsTo a = none :=
  Bus.forwardsTo_of_not_io (by rwa [h])

theorem Bus.read_of_route (h : route a = r) (hr : ∀ i, r ≠ .io i) : b.read a = (b.rawRead a, b) :=
  Bus.read_of_unclaimed (Bus.forwardsTo_of_route h hr)

theorem Bus.write_of_route (h : route a = r) (hr : ∀ i, r ≠ .io i) (v : Byte) : b.write a v = b.rawWrite a v :=
  Bus.write_of_unclaimed (Bus.forwardsTo_of_route h hr) v

/-- Storage outside the I/O window reads back what was written, and the read changes nothing. -/
theorem Bus.read_write_self_of_route (h : route a = r) (hr : ∀ i, r ≠ .io i) (hkeep : b.retains a = true) (v : Byte) :
    (b.write a v).read a = (v, b.write a v) := by
  rw [Bus.read_of_route h hr, Bus.write_of_route h hr, Bus.rawRead_rawWrite_self hkeep]

end

/-! ### The echo window (20_memory.md rule R49) -/

/-- The address 0x2000 below one of the echo window lies in the work RAM, at the same index. -/
theorem route_echo_source {a : Word} (h : 0xE000 ≤ a.toNat ∧ a.toNat < 0xFE00) :
    route (a - 0x2000) = .wram (a.toNat - 0xE000) := by
  have hsub : (a - 0x2000).toNat = a.toNat - 0x2000 := by bv_omega
  have hindex : a.toNat - 0x2000 - 0xC000 = a.toNat - 0xE000 := by omega
  rw [route_wram (by omega), hsub, hindex]

theorem Bus.read_echo (b : Bus) {a : Word} (h : 0xE000 ≤ a.toNat ∧ a.toNat < 0xFE00) :
    b.read a = b.read (a - 0x2000) := by
  rw [Bus.read_of_route (route_echo h) nofun, Bus.read_of_route (route_echo_source h) nofun]
  simp only [Bus.rawRead, route_echo h, route_echo_source h]

theorem Bus.write_echo (b : Bus) {a : Word} (h : 0xE000 ≤ a.toNat ∧ a.toNat < 0xFE00) (v : Byte) :
    b.write a v = b.write (a - 0x2000) v := by
  rw [Bus.write_of_route (route_echo h) nofun, Bus.write_of_route (route_echo_source h) nofun]
  simp only [Bus.rawWrite, route_echo h, route_echo_source h]

/-! ### The external-RAM window (20_memory.md rules R78, R79) -/

section
variable {p : Params} {m : BankController}

theorem eramRead_off (h : m.ramEnable = false ∨ p.eramSize = 0) (i : Nat) : eramRead p m i = p.fill := by
  obtain h | h := h <;> simp [eramRead, h]

theorem eramWrite_off (h : m.ramEnable = false ∨ p.eramSize = 0) (i : Nat) (v : Byte) : eramWrite p m i v = m := by
  obtain h | h := h <;> simp [eramWrite, h]

theorem eramRead_on (hon : m.ramEnable = true) (hsize : 0 < p.eramSize) (i : Nat) :
    eramRead p m i = readCell m.eram (eramIndex p m i) := by
  simp [eramRead, hon, hsize.ne']

theorem eramWrite_on (hon : m.ramEnable = true) (hsize : 0 < p.eramSize) (i : Nat) (v : Byte) :
    eramWrite p m i v = { m with eram := writeCell m.eram (eramIndex p m i) v } := by
  simp [eramWrite, hon, hsize.ne']

end

/-! ### Control writes of the banked scheme (20_memory.md rules R74 to R77) -/

/-- With the banked scheme a write to the ROM range is a control write, whatever the boot latch is. -/
theorem Bus.write_control {b : Bus} {a : Word} (h : a.toNat < 0x8000) (hk : b.mbc.kind = .mbc1) (v : Byte) :
    b.write a v = { b with mbc := mbc1Control b.mbc a.toNat v } := by
  rw [Bus.write_of_route (route_rom h) nofun]
  simp only [Bus.rawWrite, route_rom h, bankControl, hk]

theorem ramEnable_eq_decide (v : Byte) : (v.extractLsb' 0 4 == 0xA) = decide (v.toNat % 16 = 10) := by
  revert v; decide

/-- The low five bits of the bank index replaced. -/
theorem romBank_select_toNat (bank : BitVec 7) (lo : BitVec 5) :
    ((bank &&& 0x60) ||| lo.zeroExtend 7).toNat = bank.toNat / 32 * 32 + lo.toNat := by
  revert lo bank; decide

/-- The high two bits of the bank index replaced. -/
theorem romBank_high_toNat (bank : BitVec 7) (hi : BitVec 2) :
    ((bank &&& 0x1F) ||| (hi.zeroExtend 7 <<< 5)).toNat = hi.toNat * 32 + bank.toNat % 32 := by
  revert hi bank; decide

/-- The five bits of a written value that select a ROM bank, 0 taken as 1. -/
theorem romSelect_toNat (v : Byte) :
    (if v.extractLsb' 0 5 = 0 then (1 : BitVec 5) else v.extractLsb' 0 5).toNat =
      if v.toNat % 32 = 0 then 1 else v.toNat % 32 := by
  revert v; decide

theorem extractLsb'_zero_toNat (v : Byte) (n : Nat) : (v.extractLsb' 0 n).toNat = v.toNat % 2 ^ n := by
  simp

theorem mbc1Control_ramEnable (m : BankController) {a : Nat} (h : a < 0x2000) (v : Byte) :
    mbc1Control m a v = { m with ramEnable := decide (v.toNat % 16 = 10) } := by
  simp only [mbc1Control, if_pos h, ramEnable_eq_decide]

theorem mbc1Control_romLow (m : BankController) {a : Nat} (h : 0x2000 ≤ a ∧ a < 0x4000) (v : Byte) :
    ∃ bank, mbc1Control m a v = { m with romBank := bank } ∧
      bank.toNat = m.romBank.toNat / 32 * 32 + (if v.toNat % 32 = 0 then 1 else v.toNat % 32) := by
  simp (disch := omega) only [mbc1Control, if_neg, if_pos]
  exact ⟨_, rfl, by rw [romBank_select_toNat, romSelect_toNat]⟩

theorem mbc1Control_romHigh {m : BankController} {a : Nat} (h : 0x4000 ≤ a ∧ a < 0x6000) (hmode : m.bankMode = 0)
    (v : Byte) :
    ∃ bank, mbc1Control m a v = { m with romBank := bank } ∧ bank.toNat = v.toNat % 4 * 32 + m.romBank.toNat % 32 := by
  simp (disch := omega) only [mbc1Control, if_neg, if_pos]
  exact ⟨_, rfl, by simp only [romBank_high_toNat, extractLsb'_zero_toNat, Nat.reducePow]⟩

theorem mbc1Control_ramBank {m : BankController} {a : Nat} (h : 0x4000 ≤ a ∧ a < 0x6000) (hmode : m.bankMode = 1)
    (v : Byte) :
    ∃ bank, mbc1Control m a v = { m with ramBank := bank } ∧ bank.toNat = v.toNat % 4 := by
  have hone : m.bankMode ≠ 0 := by rw [hmode]; decide
  simp (disch := omega) only [mbc1Control, if_neg, if_pos, hone]
  exact ⟨_, rfl, extractLsb'_zero_toNat v 2⟩

theorem mbc1Control_bankMode (m : BankController) {a : Nat} (h : 0x6000 ≤ a) (v : Byte) :
    ∃ mode, mbc1Control m a v = { m with bankMode := mode } ∧ mode.toNat = v.toNat % 2 := by
  simp (disch := omega) only [mbc1Control, if_neg]
  exact ⟨_, rfl, extractLsb'_zero_toNat v 1⟩

end Sys2Proof.Machine

section
open Sys2Proof Sys2Proof.Machine

/-- Settles O20: the last address is outside the I/O window and its storage keeps what it is given; the ranges of the map
are the router's. -/
theorem addressMapAndInterruptEnable : Obligations.AddressMapAndInterruptEnable := by
  have hlast : route 0xFFFF = .interruptEnable := route_interruptEnable rfl
  refine ⟨fun b v => ⟨Bus.forwardsTo_of_route hlast nofun, Bus.read_of_route hlast nofun,
    Bus.write_of_route hlast nofun v, Bus.read_write_self_of_route hlast nofun rfl v⟩, fun a => ?_⟩
  exact ⟨route_rom, route_vram, route_eram, route_wram, route_echo, route_oam, route_unusable, route_io, route_hram,
    route_interruptEnable⟩

/-- Settles O21: work RAM and high RAM keep what they are given, and an echo access is the work-RAM access below it. -/
theorem workRamEchoAndHighRam : Obligations.WorkRamEchoAndHighRam := by
  refine ⟨fun b a v h => ?_, fun b a v h => ?_, fun b a v h => ?_⟩
  · have hr := route_wram h
    have hself := Bus.read_write_self_of_route (b := b) hr nofun (by simp only [Bus.retains, hr]) v
    refine ⟨?_, ?_, hself⟩ <;>
      simp only [Bus.read_of_route hr nofun, Bus.write_of_route hr nofun, Bus.rawRead, Bus.rawWrite, hr]
  · have hr := route_hram h
    have hself := Bus.read_write_self_of_route (b := b) hr nofun (by simp only [Bus.retains, hr]) v
    refine ⟨?_, ?_, hself⟩ <;>
      simp only [Bus.read_of_route hr nofun, Bus.write_of_route hr nofun, Bus.rawRead, Bus.rawWrite, hr]
  · have hr := route_echo h
    have hself := Bus.read_write_self_of_route (b := b) hr nofun (by simp only [Bus.retains, hr]) v
    refine ⟨b.read_echo h, b.write_echo h v, ?_, ?_, ?_⟩
    · simp only [Bus.read_of_route hr nofun, Bus.rawRead, hr]
    · rw [← Bus.read_echo _ h, hself]
    · rw [← Bus.write_echo _ h, hself]

/-- Settles O22: each gated region reads and writes through its own gate, the unusable region has no storage. -/
theorem gatesAndUnusable : Obligations.GatesAndUnusable := by
  refine ⟨fun b a v h => ?_, fun b a v h => ?_, fun b a v h => ?_⟩
  · have hr := route_vram h
    rw [Bus.read_of_route hr nofun, Bus.write_of_route hr nofun]
    simp only [Bus.rawRead, Bus.rawWrite, hr, and_self]
  · have hr := route_oam h
    rw [Bus.read_of_route hr nofun, Bus.write_of_route hr nofun]
    simp only [Bus.rawRead, Bus.rawWrite, hr, and_self]
  · have hr := route_unusable h
    rw [Bus.read_of_route hr nofun, Bus.write_of_route hr nofun]
    simp only [Bus.rawRead, Bus.rawWrite, hr, and_self]

/-- Settles O23: a read of the ROM range is the overlay or the cartridge's window, and changes nothing. -/
theorem romRangeReads : Obligations.RomRangeReads := by
  intro b a h
  have hr := route_rom h
  simp only [Bus.read_of_route hr nofun, Bus.rawRead, hr, romRangeRead, cartridgeRead, romByte]

/-- Settles O24: the four quarters of the ROM range write the four registers of the banked scheme. -/
theorem bankControlWrites : Obligations.BankControlWrites := by
  intro b a v hk
  refine ⟨fun h => ?_, fun h => ?_, fun ⟨hlow, hhigh, hmode⟩ => ?_, fun ⟨hlow, hhigh, hmode⟩ => ?_, fun h => ?_⟩
  · rw [Bus.write_control (by omega) hk, mbc1Control_ramEnable _ h]
  · obtain ⟨bank, hcontrol, hbank⟩ := mbc1Control_romLow b.mbc h v
    exact ⟨bank, by rw [Bus.write_control (by omega) hk, hcontrol], hbank⟩
  · obtain ⟨bank, hcontrol, hbank⟩ := mbc1Control_romHigh ⟨hlow, hhigh⟩ hmode v
    exact ⟨bank, by rw [Bus.write_control (by omega) hk, hcontrol], hbank⟩
  · obtain ⟨bank, hcontrol, hbank⟩ := mbc1Control_ramBank ⟨hlow, hhigh⟩ hmode v
    exact ⟨bank, by rw [Bus.write_control (by omega) hk, hcontrol], hbank⟩
  · obtain ⟨mode, hcontrol, hmode⟩ := mbc1Control_bankMode b.mbc h.1 v
    exact ⟨mode, by rw [Bus.write_control h.2 hk, hcontrol], hmode⟩

/-- Settles O25: the RAM enable and the size decide between the indexed byte and none. -/
theorem externalRam : Obligations.ExternalRam := by
  intro b a v h
  have hr := route_eram h
  simp only [Bus.read_of_route hr nofun, Bus.write_of_route hr nofun, Bus.rawRead, Bus.rawWrite, hr]
  refine ⟨fun hoff => ?_, fun ⟨hon, hsize⟩ => ?_⟩
  · simp only [eramRead_off hoff, eramWrite_off hoff, and_self]
  · simp only [eramRead_on hon hsize, eramWrite_on hon hsize, eramIndex, and_self]

end

/-! The I/O window and its handlers (20_memory.md rules R56 to R65): which accesses are forwarded, what a forwarded and an
unforwarded access are, the course of a handler, the handler table. -/

namespace Sys2Proof.Machine

/-! ### The I/O window (20_memory.md rules R56 to R61) -/

section
variable {a : Word}

/-- The side effects of a write to the window, by its address. -/
theorem Bus.ioSideEffects_of_window (b : Bus) (h : 0xFF00 ≤ a.toNat ∧ a.toNat < 0xFF80) (v : Byte) :
    b.ioSideEffects (a.toNat - 0xFF00) v = { b with
      serialLog := if a = 0xFF02 then b.serialLog ++ [readCell b.io 0x01] else b.serialLog
      booting := if a = 0xFF50 ∧ v ≠ 0 then false else b.booting } := by
  have hserial : a.toNat - 0xFF00 = ioSerialControl ↔ a = 0xFF02 := by unfold ioSerialControl; bv_omega
  have hboot : a.toNat - 0xFF00 = ioBootMode ↔ a = 0xFF50 := by unfold ioBootMode; bv_omega
  simp only [Bus.ioSideEffects, hserial, hboot, ioSerialData]

theorem Bus.rawRead_io (b : Bus) (h : 0xFF00 ≤ a.toNat ∧ a.toNat < 0xFF80) :
    b.rawRead a = readCell b.io (a.toNat - 0xFF00) := by
  simp only [Bus.rawRead, route_io h]

theorem Bus.rawWrite_io (b : Bus) (h : 0xFF00 ≤ a.toNat ∧ a.toNat < 0xFF80) (v : Byte) :
    b.rawWrite a v =
      { b.ioSideEffects (a.toNat - 0xFF00) v with io := writeCell b.io (a.toNat - 0xFF00) v } := by
  simp only [Bus.rawWrite, route_io h]

/-- A handler takes an access exactly in the window, with the guard idle, if it holds the address. -/
theorem Bus.forwardsTo_eq_some_iff {b : Bus} {g : Nat} :
    b.forwardsTo a = some g ↔ 0xFF00 ≤ a.toNat ∧ a.toNat < 0xFF80 ∧ b.guard = .idle ∧
      handlerHolding b.handlerAt (a.toNat - 0xFF00) = some g := by
  by_cases h : 0xFF00 ≤ a.toNat ∧ a.toNat < 0xFF80
  · simp [Bus.forwardsTo, route_io h, h]
  · have hnone : b.forwardsTo a = none := Bus.forwardsTo_of_not_io (route_ne_io (by omega))
    simp only [hnone, reduceCtorEq, false_iff]
    exact fun ⟨hlow, hhigh, _⟩ => h ⟨hlow, hhigh⟩

theorem Bus.read_of_forwarded {b : Bus} {g : Nat} (h : b.forwardsTo a = some g) :
    b.read a = b.invoke (Config.handlerRead g a b.draws) := by
  simp only [Bus.read, h]

/-- A forwarded write has its side effects, then the handler's course. -/
theorem Bus.write_of_forwarded {b : Bus} {g : Nat} (h : b.forwardsTo a = some g) (v : Byte) :
    b.write a v =
      ((b.ioSideEffects (a.toNat - 0xFF00) v).invoke (Config.handlerWrite g a v b.draws)).2 := by
  obtain ⟨hlow, hhigh, _⟩ := Bus.forwardsTo_eq_some_iff.mp h
  simp only [Bus.write, h, Bus.writeSideEffects, route_io ⟨hlow, hhigh⟩]

end

/-! ### Accesses under the guard (20_memory.md rule R59) -/

@[simp] theorem Bus.rawRead_setGuard (b : Bus) (g : Guard) (a : Word) :
    ({ b with guard := g } : Bus).rawRead a = b.rawRead a := rfl

@[simp] theorem Bus.rawWrite_setGuard (b : Bus) (g : Guard) (a : Word) (v : Byte) :
    ({ b with guard := g } : Bus).rawWrite a v = { b.rawWrite a v with guard := g } := by
  unfold Bus.rawWrite
  cases route a <;> simp only
  case vram | oam => split <;> rfl
  case io => rfl

theorem Bus.read_of_dispatching {b : Bus} (h : b.guard = .dispatching) (a : Word) : b.read a = (b.rawRead a, b) :=
  Bus.read_of_unclaimed (Bus.forwardsTo_of_dispatching h a)

theorem Bus.write_of_dispatching {b : Bus} (h : b.guard = .dispatching) (a : Word) (v : Byte) :
    b.write a v = b.rawWrite a v :=
  Bus.write_of_unclaimed (Bus.forwardsTo_of_dispatching h a) v

/-- The nested accesses of a course leave the guard as it is. -/
theorem runHandler_guard (r : HandlerRun) (b : Bus) : (runHandler r b).2.guard = b.guard :=
  runHandler_keeps (P := fun c => c.guard = b.guard) (fun c a v h => (c.rawWrite_guard a v).trans h) r b rfl

/-! ### The handler table (20_memory.md rules R63, R64) -/

theorem handlerHolding_cons (k g : Nat) (rest : List (Nat × Nat)) (i : Nat) :
    handlerHolding ((k, g) :: rest) i = if k = i then some g else handlerHolding rest i := rfl

/-- The holder of an index in a table that lists, for each of `indices`, the handler `holder` gives it. -/
theorem handlerHolding_filterMap (holder : Nat → Option Nat) (indices : List Nat) (i : Nat) :
    handlerHolding (indices.filterMap fun k => (holder k).map (k, ·)) i =
      if i ∈ indices then holder i else none := by
  induction indices with
  | nil => rfl
  | cons k rest ih =>
    cases hk : holder k with
    | none =>
      simp only [List.filterMap_cons, hk, Option.map_none, ih, List.mem_cons]
      by_cases hki : i = k
      · subst hki; simp only [hk, ite_self]
      · simp only [hki, false_or]
    | some g =>
      simp only [List.filterMap_cons, hk, Option.map_some, handlerHolding_cons, ih, List.mem_cons]
      by_cases hki : i = k
      · subst hki; simp only [hk, true_or, if_true]
      · simp only [hki, Ne.symm hki, false_or, if_false]

/-- To whom index `i` belongs after registration of `h` (20_memory.md rule R63). -/
def claimHolder (old : List (Nat × Nat)) (h : Nat) (claims : Word → Bool) (i : Nat) : Option Nat :=
  if claims (0xFF00 + BitVec.ofNat 16 i) then some h
  else if handlerHolding old i = some h then none else handlerHolding old i

theorem claimTable_eq_filterMap (old : List (Nat × Nat)) (h : Nat) (claims : Word → Bool) :
    claimTable old h claims = (List.range 0x80).filterMap fun i => (claimHolder old h claims i).map (i, ·) := by
  unfold claimTable
  congr 1
  funext i
  unfold claimHolder
  split
  · rfl
  · cases handlerHolding old i with
    | none => rfl
    | some g => by_cases hg : g = h <;> simp [hg]

theorem handlerHolding_claimTable (old : List (Nat × Nat)) (h : Nat) (claims : Word → Bool) {i : Nat} (hi : i < 0x80) :
    handlerHolding (claimTable old h claims) i = claimHolder old h claims i := by
  rw [claimTable_eq_filterMap, handlerHolding_filterMap, if_pos (List.mem_range.mpr hi)]

end Sys2Proof.Machine

section
open Sys2Proof Sys2Proof.Machine

/-- Settles O26: an access forwarded to no handler is raw. -/
theorem ioWindowUnclaimed : Obligations.IoWindowUnclaimed := by
  intro b a v h hu
  rw [Bus.read_of_unclaimed hu, Bus.write_of_unclaimed hu, b.rawRead_io h, b.rawWrite_io h, b.ioSideEffects_of_window h]
  exact ⟨rfl, rfl⟩

/-- Settles O27: the forwarding condition, and a forwarded access as an invocation under the guard. -/
theorem ioWindowForwarded : Obligations.IoWindowForwarded := by
  intro b a v g
  refine ⟨Bus.forwardsTo_eq_some_iff, fun h => ⟨Bus.read_of_forwarded h, ?_⟩⟩
  obtain ⟨hlow, hhigh, _⟩ := Bus.forwardsTo_eq_some_iff.mp h
  rw [Bus.write_of_forwarded h, b.ioSideEffects_of_window ⟨hlow, hhigh⟩]
  rfl

/-- Settles O28: under the guard every access is raw, and raw accesses read neither the guard nor change it. -/
theorem nestedAccessesBypass : Obligations.NestedAccessesBypass := by
  refine ⟨fun b a v hg => ?_, fun b a v k k' hg => ?_⟩
  · rw [Bus.read_of_dispatching hg, Bus.write_of_dispatching hg]
    refine ⟨Bus.forwardsTo_of_dispatching hg a, rfl, rfl, fun h => ⟨b.rawRead_io h, ?_⟩, fun h => ?_⟩
    · rw [b.rawWrite_io h]
    · have hidle : ({ b with guard := .idle } : Bus).forwardsTo a = none := Bus.forwardsTo_of_not_io (route_ne_io h)
      rw [Bus.read_of_unclaimed hidle, Bus.write_of_unclaimed hidle]
      refine ⟨rfl, ?_⟩
      rw [Bus.rawWrite_setGuard b .idle, ← hg, ← Bus.rawWrite_guard b a v]
  · rw [Bus.read_of_dispatching hg, Bus.write_of_dispatching hg]
    exact ⟨rfl, rfl, (runHandler_guard k' b).trans hg⟩

/-- Settles O29: both operations replace the handler table by the one that lists each index's new holder. -/
theorem handlerRegistration : Obligations.HandlerRegistration := by
  intro s h claims i hi
  exact ⟨handlerHolding_claimTable _ h claims hi, handlerHolding_claimTable _ h (fun _ => false) hi,
    ⟨_, rfl⟩, ⟨_, rfl⟩⟩

end

/-! The bank controller (20_memory.md rules R70, R73): the one `CART_TYPE` selects, and none, which nothing moves. -/

namespace Sys2Proof.Machine

/-! ### The controller kind at construction (20_memory.md rule R70) -/

theorem controllerOf_mbc1 {t : Byte} (h : 1 ≤ t.toNat ∧ t.toNat ≤ 3) : controllerOf t = .ok .mbc1 := by
  have hnone : t ≠ 0x00 := by bv_omega
  have hmbc : t = 0x01 ∨ t = 0x02 ∨ t = 0x03 := by bv_omega
  rw [controllerOf, if_neg hnone, if_pos hmbc]

theorem controllerOf_unrecognized {t : Byte} (h : 3 < t.toNat) :
    controllerOf t = .error (.unrecognizedController t) := by
  have hnone : t ≠ 0x00 := by bv_omega
  have hmbc : ¬(t = 0x01 ∨ t = 0x02 ∨ t = 0x03) := by bv_omega
  rw [controllerOf, if_neg hnone, if_neg hmbc]

theorem State.construct_eq_error {p : Params} {e : ConfigError} (h : controllerOf p.cartType = .error e)
    (image : Option (Vector Byte p.eramSize)) : State.construct p image = .error e := by
  unfold State.construct
  rw [h]

@[simp] theorem resetController_kind (kind : MbcKind) (eram : Memory) : (resetController kind eram).kind = kind := rfl

/-- `reset()` keeps the controller `CART_TYPE` selects. -/
theorem State.resetSession_kind {s : State} (h : selects s.bus.params.cartType s.bus.mbc.kind = true) :
    s.resetSession.bus.mbc.kind = s.bus.mbc.kind := by
  rw [State.resetSession, Bus.resetBus_mbc h, resetController_kind]

/-! ### No controller (20_memory.md rule R73) -/

theorem bankControl_of_none {m : BankController} (h : m.kind = .none) (a : Nat) (v : Byte) : bankControl m a v = m := by
  simp only [bankControl, h]

/-- Without a controller, and the external RAM disabled as it is then for ever, no write changes the banking state. -/
theorem Bus.rawWrite_mbc_of_none {b : Bus} (hk : b.mbc.kind = .none) (he : b.mbc.ramEnable = false) (a : Word)
    (v : Byte) : (b.rawWrite a v).mbc = b.mbc := by
  unfold Bus.rawWrite
  cases route a <;> simp only
  case rom => exact bankControl_of_none hk _ v
  case eram => exact eramWrite_off (.inl he) _ v
  case vram | oam => split <;> rfl
  case io => rfl

theorem Bus.stable_mbc_of_none {m : BankController} (hk : m.kind = .none) (he : m.ramEnable = false) :
    Bus.Stable fun b => b.mbc = m where
  rawWrite b a v h := by rw [Bus.rawWrite_mbc_of_none (by rw [h, hk]) (by rw [h, he]), h]
  ioSideEffects _ _ _ h := h
  bookkeeping _ _ _ h := h

end Sys2Proof.Machine

section
open Sys2Proof Sys2Proof.Machine

/-- Settles O59: construction and `reset()` take the controller that `CART_TYPE` selects. -/
theorem controllerSelection : Obligations.ControllerSelection := by
  refine fun p image => ⟨fun h => ?_, fun h => ?_, fun h => ?_, fun s hs => ?_⟩
  · have hkind : controllerOf p.cartType = .ok .none := by rw [h]; rfl
    exact ⟨_, State.construct_eq_ok hkind image, rfl, rfl⟩
  · exact ⟨_, State.construct_eq_ok (controllerOf_mbc1 h) image, rfl, rfl, readCell_eramFromImage image⟩
  · exact State.construct_eq_error (controllerOf_unrecognized h) image
  · exact State.resetSession_kind hs

/-- Settles O19: without a controller a control write changes nothing, and with the external RAM disabled, as the reset
values have it, no write of a step reaches the banking state. -/
theorem noControllerFrozen : Obligations.NoControllerFrozen := by
  refine ⟨fun b a v hk h => ?_, fun s t hk hallowed hstep => ?_⟩
  · have hr := route_rom h
    simp only [Bus.write_of_route hr nofun, Bus.rawWrite, hr, bankControl_of_none hk]
  · obtain ⟨_, _, hdisabled, _⟩ := hallowed.1 hk
    exact (step_reaches hstep).keeps (Bus.stable_mbc_of_none hk hdisabled) rfl

end

/-! What an instruction leaves unchanged in memory (20_memory.md rules R82, R85): its effect on the bus is one raw write to
each of its store addresses, and a raw write leaves every byte it cannot reach reading as before. -/

namespace Sys2Proof.Machine

/-! ### Several stores (20_memory.md rule R82) -/

/-- Outside the ROM range a write leaves the RAM bank as it is (20_memory.md rule R76). -/
theorem Bus.rawWrite_ramBank {b : Bus} {a : Word} (h : ∀ k, route a ≠ .rom k) (v : Byte) :
    (b.rawWrite a v).mbc.ramBank = b.mbc.ramBank := by
  unfold Bus.rawWrite
  cases ha : route a <;> simp only
  case rom k => exact absurd ha (h k)
  case eram => unfold eramWrite; split <;> rfl
  case vram | oam => split <;> rfl
  case io => rfl

/-- What a write can reach depends on the bus only through the RAM bank and the parameters. -/
theorem Bus.aliases_congr {b c : Bus} (hbank : c.mbc.ramBank = b.mbc.ramBank) (hparams : c.params = b.params)
    (a x : Word) : c.aliases a x = b.aliases a x := by
  simp only [Bus.aliases, eramIndex, hbank, hparams]

/-- Outside the external-RAM window it does not depend on the bus at all. -/
theorem Bus.aliases_of_not_eram (b c : Bus) (a : Word) {x : Word} (hx : ∀ j, route x ≠ .eram j) :
    c.aliases a x = b.aliases a x := by
  unfold Bus.aliases
  cases route a <;> simp only

/-- A byte that neither of two writes can reach is still out of the second one's reach after the first: only a
bank-control write moves the external-RAM window, and it reaches the whole window itself. -/
theorem Bus.rawWrite_aliases {b : Bus} {a a' x : Word} (h : b.aliases a x = false) (h' : b.aliases a' x = false)
    (v : Byte) : (b.rawWrite a v).aliases a' x = false := by
  by_cases hrom : ∃ k, route a = .rom k
  · obtain ⟨k, hk⟩ := hrom
    have hx : ¬(0x4000 ≤ x.toNat ∧ x.toNat < 0x8000) ∧ ¬(0xA000 ≤ x.toNat ∧ x.toNat < 0xC000) := by
      simpa [Bus.aliases, hk] using h
    have hnot : ∀ j, route x ≠ .eram j := by
      intro j hj
      have hbounds := route_in_bounds x
      simp only [hj, Region.InBounds] at hbounds
      omega
    rw [Bus.aliases_of_not_eram b _ a' hnot, h']
  · rw [Bus.aliases_congr (Bus.rawWrite_ramBank (fun k hk => hrom ⟨k, hk⟩) v) (b.rawWrite_params a v), h']

/-- The bus after one raw write to each of the addresses, in order. -/
inductive Bus.Stored : Bus → List Word → Bus → Prop where
  | nil {b : Bus} : Bus.Stored b [] b
  | cons {b c : Bus} {a : Word} {rest : List Word} (v : Byte) (h : Bus.Stored (b.rawWrite a v) rest c) :
      Bus.Stored b (a :: rest) c

namespace Bus.Stored
variable {b c : Bus} {a a' : Word}

/-- A byte none of the stores can reach reads as before. -/
theorem rawRead {addrs : List Word} (h : b.Stored addrs c) {x : Word}
    (hx : ∀ a, a ∈ addrs → b.aliases a x = false) : c.rawRead x = b.rawRead x := by
  induction h with
  | nil => rfl
  | cons v _ ih =>
    have hhead := hx _ (.head _)
    have htail := ih fun a ha => Bus.rawWrite_aliases hhead (hx a (.tail _ ha)) v
    rw [htail, Bus.rawRead_rawWrite_of_not_aliases hhead v]

theorem eq_of_nil (h : b.Stored [] c) : c = b := by cases h; rfl

theorem read (h : ∀ x ∈ [a], b.forwardsTo x = none) : b.Stored [] (b.read a).2 := by
  rw [Bus.read_of_unclaimed (h a (.head _))]; exact .nil

theorem read_read (h : ∀ x ∈ [a, a'], b.forwardsTo x = none) : b.Stored [] ((b.read a).2.read a').2 := by
  simp only [List.forall_mem_cons] at h
  obtain ⟨ha, ha', _⟩ := h
  rw [Bus.read_of_unclaimed ha, Bus.read_of_unclaimed ha']; exact .nil

theorem write (h : ∀ x ∈ [a], b.forwardsTo x = none) (v : Byte) : b.Stored [a] (b.write a v) := by
  rw [Bus.write_of_unclaimed (h a (.head _))]; exact .cons v .nil

theorem write_write (h : ∀ x ∈ [a, a'], b.forwardsTo x = none) (v w : Byte) :
    b.Stored [a, a'] ((b.write a v).write a' w) := by
  simp only [List.forall_mem_cons] at h
  obtain ⟨ha, ha', _⟩ := h
  rw [Bus.write_of_unclaimed ha, Bus.write_of_unclaimed (by simpa using ha')]; exact .cons v (.cons w .nil)

theorem readOpnd {s : State} {o : Opnd8} (h : ∀ x ∈ o.addresses s.cpu, s.bus.forwardsTo x = none) :
    s.bus.Stored [] (s.readOpnd o).2.bus := by
  cases o with
  | reg r => exact .nil
  | memHl => exact .read h

theorem readSrc {s : State} {src : AluSrc} (h : ∀ x ∈ src.addresses s.cpu, s.bus.forwardsTo x = none) :
    s.bus.Stored [] (s.readSrc src).2.bus := by
  cases src with
  | opnd o => exact .readOpnd h
  | imm d8 => exact .nil

/-- Reading an operand and writing it back stores to it alone. -/
theorem updateOpnd {s : State} {o : Opnd8} (h : ∀ x ∈ o.addresses s.cpu, s.bus.forwardsTo x = none) (v : Byte) :
    s.bus.Stored (o.addresses s.cpu) ((s.readOpnd o).2.writeOpnd o v).bus := by
  cases o with
  | reg r => exact .nil
  | memHl =>
    have hread : (s.bus.read s.cpu.hl).2 = s.bus := (Stored.read h).eq_of_nil
    have hbus : ((s.readOpnd .memHl).2.writeOpnd .memHl v).bus = s.bus.write s.cpu.hl v := by
      rw [← congrArg (·.write s.cpu.hl v) hread]; rfl
    rw [hbus]; exact .write h v

end Bus.Stored

/-! ### The stores of an instruction -/

/-- The bus of the next state, where the outcome is one, is `b` with one store to each of the addresses. -/
def NextStored (b : Bus) (addrs : List Word) (r : Result) : Prop := ∀ t, r = .next t → b.Stored addrs t.bus

theorem NextStored.done {b : Bus} {addrs : List Word} {s : State} {cpu : Cpu} {n : Nat} (h : b.Stored addrs s.bus) :
    NextStored b addrs (s.done cpu n) := by
  rintro _ ⟨rfl⟩; exact h

theorem NextStored.ite {b : Bus} {addrs : List Word} {c : Prop} [Decidable c] {r r' : Result}
    (h : NextStored b addrs r) (h' : NextStored b addrs r') : NextStored b addrs (if c then r else r') := by
  split
  · exact h
  · exact h'

theorem NextStored.unassigned (b : Bus) (addrs : List Word) (op : Byte) (s : State) :
    NextStored b addrs (unassigned op s) := by
  simp [NextStored, Machine.unassigned]

theorem stores_callCc (cc : Cond) (a16 : Word) (s : Cpu) :
    (Form.callCc cc a16).stores s = if s.cond cc then [s.sp - 1, s.sp - 1 - 1] else [] := rfl

theorem loads_retCc (cc : Cond) (s : Cpu) :
    (Form.retCc cc).loads s = if s.cond cc then [s.sp, s.sp + 1] else [] := rfl

/-- Where no handler claims an address it accesses, an instruction's effect on the bus is one raw write to each of its
store addresses, in order. -/
theorem runForm_stored (f : Form) (hf : f ≠ .escape) (s : State)
    (hl : ∀ a ∈ f.loads s.cpu, s.bus.forwardsTo a = none) (hst : ∀ a ∈ f.stores s.cpu, s.bus.forwardsTo a = none) :
    NextStored s.bus (f.stores s.cpu) (runForm f s) := by
  cases f with
  | nop | halt | stop | di | ei => exact .done .nil
  | ldRegReg | ldRegImm | ldPairImm | ldSpHl | ldHlSp => exact .done .nil
  | daa | cpl | scf | ccf | addHl | inc16 | dec16 | addSp | rotA => exact .done .nil
  | jp | jr | jpHl => exact .done .nil
  | jpCc | jrCc => exact .ite (.done .nil) (.done .nil)
  | ldRegMem | ldAPtr | ldAAbs | ldhLoad | ldAHighC => exact .done (.read hl)
  | ldMemReg | ldMemImm | ldPtrA | ldAbsA | ldhStore | ldHighCA => exact .done (.write hst _)
  | ldAbsSp | push | call | rst => exact .done (.write_write hst _ _)
  | pop | ret | reti => exact .done (.read_read hl)
  | alu op src => exact .done (.readSrc hl)
  | bit b o => exact .done (.readOpnd hl)
  | inc8 | dec8 | shift | res | set => exact .done (.updateOpnd hl _)
  | callCc cc a16 =>
    rw [stores_callCc] at hst ⊢
    simp only [runForm, callCc]
    cases hc : s.cpu.cond cc <;> simp only [hc, if_true, Bool.false_eq_true, if_false] at hst ⊢
    · exact .done .nil
    · exact .done (.write_write hst _ _)
  | retCc cc =>
    rw [loads_retCc] at hl
    simp only [runForm, retCc]
    cases hc : s.cpu.cond cc <;> simp only [hc, if_true, Bool.false_eq_true, if_false] at hl ⊢
    · exact .done .nil
    · exact .done (.read_read hl)
  | escape => exact absurd rfl hf
  | unassigned op => exact NextStored.unassigned _ _ _ _

end Sys2Proof.Machine

section
open Sys2Proof Sys2Proof.Machine

/-- Settles O30: the reach of a write and what its storage keeps. -/
theorem writeFrame : Obligations.WriteFrame :=
  ⟨fun _ _ _ v h => Bus.rawRead_rawWrite_of_not_aliases h v, fun _ _ v h => Bus.rawRead_rawWrite_self h v⟩

/-- Settles O57: an instruction is its form's operation, which stores to its form's addresses and to no other. -/
theorem memoryFrame : Obligations.MemoryFrame := by
  intro i s t hi hu hexec
  rw [exec_eq_runForm] at hexec
  have hstored := runForm_stored i.form (fun h => hi (Instr.eq_prefixCb_of_form h)) s
    (fun a ha => hu a (List.mem_append_left _ ha)) (fun a ha => hu a (List.mem_append_right _ ha)) t hexec
  refine ⟨fun x hx => hstored.rawRead hx, fun hnone => ?_⟩
  rw [hnone] at hstored
  exact hstored.eq_of_nil

end

/-! Decoding and encoding as inverse of each other (30_encoding.md rules R101 to R107), by the rows of the two tables:
which instruction a row gives with which operand bytes, and that its encoding is the opcode byte followed by them. -/

namespace Sys2Proof

/-! ### The rows of the tables -/

/-- The values of a function on bytes, as the grid of 30_encoding.md rule R106 lays them out: row `x[7:4]`, column
`x[3:0]`. -/
def byteGrid {α : Type} (f : Byte → α) : List (List α) :=
  (List.range 16).map fun hi => (List.range 16).map fun lo => f (.ofNat 8 (16 * hi + lo))

/-- Functions on bytes are equal where their grids are. -/
theorem eq_of_byteGrid_eq {α : Type} {f g : Byte → α} (h : byteGrid f = byteGrid g) (op : Byte) : f op = g op := by
  have hrow := List.map_inj_left.mp h (op.toNat / 16) (List.mem_range.mpr (by have := op.isLt; omega))
  have hcell := List.map_inj_left.mp hrow (op.toNat % 16) (List.mem_range.mpr (Nat.mod_lt _ (by decide)))
  simpa [Nat.div_add_mod] using hcell

/-- The instruction a row gives with operand byte `b` or operand word `w` (30_encoding.md rule R103). -/
def Row.instr (row : Row) (b : Byte) (w : Word) : Instr :=
  match row with
  | .one i => i
  | .imm8 f => f b
  | .imm16 f => f w
  | .escape => .prefixCb

/-- The operand bytes of a row, byte 1 first (30_encoding.md rule R103). -/
def Row.operands (row : Row) (b : Byte) (w : Word) : List Byte :=
  match row with
  | .one _ => []
  | .imm8 _ => [b]
  | .imm16 _ => [lowByte w, highByte w]
  | .escape => []

theorem Row.length_operands (row : Row) (b : Byte) (w : Word) : (row.operands b w).length + 1 = row.length := by
  cases row <;> rfl

/-- The encoder's row for an instruction of the primary table is its opcode byte and its operand bytes. -/
theorem encode_primaryRow (op b : Byte) (w : Word) :
    encode ((primaryRow op).instr b w) = op :: (primaryRow op).operands b w :=
  eq_of_byteGrid_eq (f := fun op => encode ((primaryRow op).instr b w))
    (g := fun op => op :: (primaryRow op).operands b w) rfl op

theorem form_primaryRow (op b1 b2 : Byte) :
    ((primaryRow op).instr b1 (imm16 b1 b2)).form = primaryForm op b1 b2 :=
  eq_of_byteGrid_eq (f := fun op => ((primaryRow op).instr b1 (imm16 b1 b2)).form)
    (g := fun op => primaryForm op b1 b2) rfl op

theorem encode_secondaryRow (op2 : Byte) : encode (secondaryRow op2) = [0xCB, op2] := by
  revert op2; decide

/-- Only 0xCB selects the escape (30_encoding.md rule R104). -/
theorem eq_escape_of_primaryRow {op : Byte} (h : primaryRow op = .escape) : op = 0xCB := by
  have hbytes := encode_primaryRow op 0 0
  rw [h] at hbytes
  exact (List.head_eq_of_cons_eq hbytes).symm

/-! ### What the decoder answers -/

/-- Where the row is not the escape, the decoder reads the row's operand bytes and leaves the bytes after them. -/
theorem decode_primaryRow {op : Byte} (hop : op ≠ 0xCB) (b1 b2 : Byte) (rest : List Byte) :
    decode (op :: b1 :: b2 :: rest) = .ok ((primaryRow op).instr b1 (imm16 b1 b2),
      (op :: b1 :: b2 :: rest).drop (primaryRow op).length) := by
  cases hrow : primaryRow op with
  | one i => exact decode_one hrow _
  | imm8 f => exact decode_imm8 hrow _
  | imm16 f => simp only [decode, hrow]; rfl
  | escape => exact absurd (eq_escape_of_primaryRow hrow) hop

/-- A sequence that decodes to an instruction holds the opcode byte and the operand bytes of its primary row, or the
escape byte and the opcode byte of its secondary row, before the bytes left over. -/
theorem decode_cases {bs rest : List Byte} {i : Instr} (h : decode bs = .ok (i, rest)) :
    (∃ op b w, i = (primaryRow op).instr b w ∧ bs = op :: (primaryRow op).operands b w ++ rest) ∨
      ∃ op2, i = secondaryRow op2 ∧ bs = 0xCB :: op2 :: rest := by
  cases bs with
  | nil => cases h
  | cons op tail =>
    simp only [decode] at h
    split at h <;> cases h
    case h_1 i hrow => exact .inl ⟨op, 0, 0, by simp [hrow, Row.instr, Row.operands]⟩
    case h_2 _ f b hrow => exact .inl ⟨op, b, 0, by simp [hrow, Row.instr, Row.operands]⟩
    case h_4 _ f b1 b2 hrow => exact .inl ⟨op, 0, imm16 b1 b2, by simp [hrow, Row.instr, Row.operands, imm16]⟩
    case h_6 _ op2 hrow => exact .inr ⟨op2, rfl, by rw [eq_escape_of_primaryRow hrow]⟩
    case h_7 hrow => exact .inl ⟨op, 0, 0, by simp [hrow, Row.instr, Row.operands]⟩

/-- The bytes that decode to an instruction are its encoding and the bytes left over. -/
theorem eq_encode_append_of_decode {bs rest : List Byte} {i : Instr} (h : decode bs = .ok (i, rest)) :
    bs = encode i ++ rest := by
  obtain ⟨op, b, w, rfl, rfl⟩ | ⟨op2, rfl, rfl⟩ := decode_cases h
  · rw [encode_primaryRow]
  · rw [encode_secondaryRow]; rfl

/-- An instruction's encoding decodes to it: the constructors with an operand word by the laws of its two bytes, the
others by the table alone. -/
theorem decode_encode (i : Instr) : decode (encode i) = .ok (i, []) := by
  cases i with
  | ldBcD16 | ldDeD16 | ldHlD16 | ldSpD16 | ldMemA16Sp | ldMemA16A | ldAMemA16 => exact decode_imm16 rfl []
  | jpA16 | jpNzA16 | jpZA16 | jpNcA16 | jpCA16 => exact decode_imm16 rfl []
  | callA16 | callNzA16 | callZA16 | callNcA16 | callCA16 => exact decode_imm16 rfl []
  | _ => rfl

/-- Bytes after an instruction are left over unread; only the bare escape row is completed by one. -/
theorem decode_append {bs rest : List Byte} {i : Instr} (h : decode bs = .ok (i, rest)) (hi : i ≠ .prefixCb)
    (more : List Byte) : decode (bs ++ more) = .ok (i, rest ++ more) := by
  obtain ⟨op, b, w, rfl, rfl⟩ | ⟨op2, rfl, rfl⟩ := decode_cases h
  · cases hrow : primaryRow op with
    | one j => exact decode_one hrow _
    | imm8 f => exact decode_imm8 hrow _
    | imm16 f => exact decode_imm16 hrow _
    | escape => exact absurd (by rw [hrow]; rfl) hi
  · exact decode_escape rfl _

theorem decode_encode_append {i : Instr} (hi : i ≠ .prefixCb) (rest : List Byte) :
    decode (encode i ++ rest) = .ok (i, rest) :=
  decode_append (decode_encode i) hi rest

/-- The bare escape row is decoded from an escape byte that ends the sequence (log entry 10). -/
theorem eq_escape_of_decode_prefixCb {bs : List Byte} (h : decode bs = .ok (.prefixCb, [])) : bs = [0xCB] :=
  eq_encode_append_of_decode h

end Sys2Proof

section
open Sys2Proof

/-- Settles O1: an encoding decodes to its instruction, and bytes after it are left over. -/
theorem decodeInvertsEncode : Obligations.DecodeInvertsEncode :=
  ⟨decode_encode, fun _ rest hi => decode_encode_append hi rest⟩

/-- Settles O2: what the decoder reads of each row is the row's encoding. -/
theorem encodeInvertsDecode : Obligations.EncodeInvertsDecode :=
  fun _ _ _ h => eq_encode_append_of_decode h

/-- Settles O3: the primary table read through its grid, whose rows have the forms and the lengths their fields give. -/
theorem primaryTableByFields : Obligations.PrimaryTableByFields := by
  intro op b1 b2 rest hop
  have hform := form_primaryRow op b1 b2
  have hlength : (primaryForm op b1 b2).bytes.length = (primaryRow op).length := by
    rw [← encode_of_form hform, encode_primaryRow, List.length_cons, Row.length_operands]
  exact ⟨_, hform, hlength ▸ decode_primaryRow hop b1 b2 rest⟩

/-- Settles O5, each word by evaluating the decoder. -/
theorem sampleWordsDecode : Obligations.SampleWordsDecode := by
  unfold Obligations.SampleWordsDecode
  decide

end

/-! One step through its instruction (30_encoding.md rules R101, R104, R105, R107, R108): the secondary table's
operation, the instruction a step runs, the fault of an unassigned opcode, and the costs. -/

namespace Sys2Proof

/-! ### The unassigned opcodes (30_encoding.md rule R105) -/

theorem Instr.unassigned_of_form {i : Instr} {op : Byte} (h : i.form = .unassigned op) :
    op ∈ Machine.unassignedOpcodes := by
  cases i with
  | illegalD3 | illegalDB | illegalDD | illegalE3 | illegalE4 | illegalEB | illegalEC | illegalED | illegalF4
  | illegalFC | illegalFD => cases h; decide
  | _ => cases h

/-- Each of the eleven opcodes has an instruction, of its unassigned form. -/
theorem exists_unassigned {op : Byte} (h : op ∈ Machine.unassignedOpcodes) :
    ∃ i : Instr, encode i = [op] ∧ i.form = .unassigned op := by
  have hform : ((primaryRow op).instr 0 (imm16 0 0)).form = .unassigned op := by
    rw [form_primaryRow]
    revert op
    decide
  exact ⟨_, encode_of_form hform, hform⟩

end Sys2Proof

namespace Sys2Proof.Machine

/-! ### The secondary table (30_encoding.md rule R107) -/

/-- The four blocks of the table, by `op2[7:6]`. -/
theorem secondaryBlock_cases : ∀ block : BitVec 2, block = 0 ∨ block = 1 ∨ block = 2 ∨ block = 3 := by decide

theorem runForm_secondaryForm (op2 : Byte) (s : State) : runForm (secondaryForm op2) s = secondary op2 s := by
  unfold secondaryForm secondary
  generalize op2.extractLsb' 6 2 = block
  obtain rfl | rfl | rfl | rfl := secondaryBlock_cases block
  all_goals rfl

theorem exec_secondaryRow (op2 : Byte) (s : State) : exec (secondaryRow op2) s = secondary op2 s := by
  rw [exec_of_form (secondaryRow_form op2), runForm_secondaryForm]

/-- The escape row runs the secondary row of the byte it fetches. -/
theorem exec_prefixCb (s : State) : exec .prefixCb s = exec (secondaryRow s.fetch8.1) s.fetch8.2 := by
  rw [exec_secondaryRow]
  rfl

/-! ### Costs (30_encoding.md rules R106 to R108) -/

/-- The cost of the next state, where the outcome is one, satisfies `P`. -/
def NextCost (P : Nat → Prop) (r : Result) : Prop := ∀ t, r = .next t → P t.cost

theorem NextCost.done {P : Nat → Prop} {s : State} {cpu : Cpu} {n : Nat} (h : P n) : NextCost P (s.done cpu n) := by
  rintro _ ⟨rfl⟩; exact h

theorem NextCost.ite {P : Nat → Prop} {c : Prop} [Decidable c] {r r' : Result} (h : NextCost P r)
    (h' : NextCost P r') : NextCost P (if c then r else r') := by
  split
  · exact h
  · exact h'

theorem NextCost.opnd {P : Nat → Prop} {s : State} {cpu : Cpu} {register memory : Nat} (o : Opnd8)
    (hr : P register) (hm : P memory) : NextCost P (s.done cpu (opndCost o register memory)) := by
  cases o
  · exact .done hr
  · exact .done hm

/-- The field value 6 selects the byte at `HL` (30_encoding.md rule R102). -/
theorem opndCost_ofCode (r : BitVec 3) (register memory : Nat) :
    opndCost (Opnd8.ofCode r) register memory = if r = 6 then memory else register := by
  have hcode : ∀ r : BitVec 3, Opnd8.ofCode r = .memHl ↔ r = 6 := by decide
  cases hr : Opnd8.ofCode r with
  | reg q => rw [if_neg fun h => nomatch hr.symm.trans ((hcode r).mpr h)]; rfl
  | memHl => rw [if_pos ((hcode r).mp hr)]; rfl

/-- The cost of a secondary row by its fields (30_encoding.md rule R107). -/
theorem secondary_cost (op2 : Byte) (s : State) :
    NextCost (· = if op2.extractLsb' 0 3 = 6 then (if op2.extractLsb' 6 2 = 1 then 12 else 16) else 8)
      (secondary op2 s) := by
  unfold secondary
  generalize op2.extractLsb' 6 2 = block
  obtain rfl | rfl | rfl | rfl := secondaryBlock_cases block
  all_goals exact .done (opndCost_ofCode ..)

/-- The costs a step can have. -/
abbrev StepCost (n : Nat) : Prop := n ∈ [4, 8, 12, 16, 20, 24]

theorem runForm_cost (f : Form) (s : State) : NextCost StepCost (runForm f s) := by
  cases f with
  | nop | halt | stop | di | ei => exact .done (by decide)
  | ldRegReg | ldRegImm | ldRegMem | ldMemReg | ldMemImm | ldAPtr | ldPtrA => exact .done (by decide)
  | ldAAbs | ldAbsA | ldhStore | ldhLoad | ldHighCA | ldAHighC => exact .done (by decide)
  | ldPairImm | ldSpHl | ldAbsSp | push | pop | ldHlSp => exact .done (by decide)
  | daa | cpl | scf | ccf | addHl | inc16 | dec16 | addSp | rotA => exact .done (by decide)
  | alu op src =>
    cases src with
    | opnd o => exact .opnd o (by decide) (by decide)
    | imm d8 => exact .done (n := 8) (by decide)
  | inc8 o | dec8 o | shift _ o | bit _ o | res _ o | set _ o => exact .opnd o (by decide) (by decide)
  | jp | jr | jpHl | call | rst | ret | reti => exact .done (by decide)
  | jpCc | jrCc | callCc | retCc => exact .ite (.done (by decide)) (.done (by decide))
  | escape =>
    intro t ht
    rw [secondary_cost s.fetch8.1 s.fetch8.2 t ht]
    split
    · split <;> decide
    · decide
  | unassigned op => simp [NextCost, runForm, unassigned]

/-- A step that executes no instruction costs 4, idle, or 20, taking an interrupt (60_exceptions.md rules R273,
R276). -/
theorem State.beginStep_cost {s t : State} (h : s.beginStep = .inl t) : t.cost = 4 ∨ t.cost = 20 := by
  simp only [State.beginStep] at h
  split at h
  · obtain rfl := Sum.inl.inj h; exact .inl rfl
  · split at h
    · obtain rfl := Sum.inl.inj h; exact .inr rfl
    · cases h

theorem step_cost {s t : State} (h : step s = .next t) : StepCost t.cost := by
  cases hbegin : s.beginStep with
  | inl u =>
    obtain rfl : u = t := by simpa [step, hbegin] using h
    obtain hcost | hcost := State.beginStep_cost hbegin <;> rw [hcost] <;> decide
  | inr u =>
    obtain ⟨v, hexec, rfl⟩ := step_executes hbegin h
    rw [exec_eq_runForm] at hexec
    rw [State.settleEnable_cost]
    exact runForm_cost _ _ v hexec

/-! ### The step of a running machine that takes no interrupt (60_exceptions.md rule R274) -/

/-- Where no handler claims `IF`, the interrupt test reads the stored bytes and changes nothing. -/
theorem State.interruptTest_of_unclaimed {s : State} (hif : s.bus.forwardsTo addrInterruptFlag = none) :
    s.interruptTest = (s.pending, s.bus.rawRead addrInterruptFlag, s) := by
  have hie : s.bus.forwardsTo addrInterruptEnable = none := Bus.forwardsTo_of_not_io (route_ne_io (by decide))
  simp [State.interruptTest, State.read, Bus.read_of_unclaimed hie, Bus.read_of_unclaimed hif, State.pending]

theorem State.beginStep_of_no_interrupt {s : State} (hrun : s.cpu.run = .running)
    (hif : s.bus.forwardsTo addrInterruptFlag = none) (hno : s.cpu.ime = false ∨ s.pending = 0) :
    s.beginStep = .inr s := by
  have hwake : ({ s with cpu := { s.cpu with run := .running } } : State) = s := by rw [← hrun]
  simp only [State.beginStep, State.interruptTest_of_unclaimed hif]
  rw [if_neg (by simp [hrun]), if_neg (by simpa [or_iff_not_imp_left] using hno), hwake]

/-- Running what is fetched is running what the bytes decode to, past them: where that is the bare escape row, the byte
fetched after it is the one the escape row itself fetches. -/
theorem exec_fetchInstr_of_decode {s : State} {n : Nat} {i : Instr} (hu : s.codeUnclaimed n)
    (hd : decode (s.codeBytes n) = .ok (i, [])) :
    exec s.fetchInstr.1 s.fetchInstr.2 =
      exec i { s with cpu := { s.cpu with pc := s.cpu.pc + BitVec.ofNat 16 n } } := by
  by_cases hi : i = .prefixCb
  · subst hi
    have hbytes := eq_escape_of_decode_prefixCb hd
    obtain rfl : n = 1 := by simpa [State.codeBytes] using congrArg List.length hbytes
    have hfetch := State.fetch8_of_unclaimed (State.codeUnclaimed_head hu)
    have hrow : primaryRow s.fetch8.1 = .escape := by
      rw [State.codeBytes_succ] at hd
      rw [hfetch]
      exact primaryRow_of_decode_prefixCb hd
    rw [State.fetchInstr_of_escape hrow, ← exec_prefixCb, hfetch]
    rfl
  · rw [State.fetchInstr_of_decode hu hd hi]

/-! ### Faults (60_exceptions.md rule R270) -/

/-- Only an unassigned form faults. -/
theorem unassigned_of_exec_fault {i : Instr} {s : State} {r : Fault} (h : exec i s = .fault r) :
    ∃ op, i.form = .unassigned op ∧ r = .illegalOpcode op (s.cpu.pc - 1) := by
  rw [exec_eq_runForm] at h
  by_cases hf : ∃ op, i.form = .unassigned op
  · obtain ⟨op, hop⟩ := hf
    rw [hop] at h
    exact ⟨op, hop, (Host.Outcome.fault.inj h).symm⟩
  · obtain ⟨t, ht, _⟩ := runForm_good i.form (fun op hop => hf ⟨op, hop⟩) s
    cases h.symm.trans ht

end Sys2Proof.Machine

section
open Sys2Proof Sys2Proof.Machine

/-- Settles O4: the secondary row is its form's operation, whose cost is its operand's. -/
theorem secondaryTableByFields : Obligations.SecondaryTableByFields := by
  refine fun op2 rest => ⟨decode_escape rfl rest, secondaryRow_form op2, fun s => ?_⟩
  rw [exec_secondaryRow]
  obtain ⟨t, ht, _⟩ := secondary_good op2 s
  exact ⟨t, ht, secondary_cost op2 s t ht⟩

/-- Settles O8: the escape row's meaning is the secondary operation of the byte it fetches. -/
theorem escapeRunsSecondary : Obligations.EscapeRunsSecondary := by
  intro s
  obtain ⟨t, ht, _⟩ := secondary_good s.fetch8.1 s.fetch8.2
  exact ⟨exec_prefixCb s, t, ht⟩

/-- Settles O7: the step executes what the bytes decode to and settles the enable. -/
theorem stepRunsDecoded : Obligations.StepRunsDecoded := by
  intro s n i hrun hif hno hu hd
  simp only [step, State.beginStep_of_no_interrupt hrun hif hno, exec_fetchInstr_of_decode hu hd]
  cases exec i { s with cpu := { s.cpu with pc := s.cpu.pc + BitVec.ofNat 16 n } } with
  | next t => simp [State.settleEnable]
  | fault r => rfl
  | refused r => rfl

/-- Settles O6: the rows of the eleven opcodes, their meaning, and that no other form faults; the step runs the one byte
it finds. -/
theorem unassignedOpcodesFault : Obligations.UnassignedOpcodesFault := by
  refine ⟨fun op => ⟨fun ⟨_, _, hform⟩ => Instr.unassigned_of_form hform, exists_unassigned⟩,
    fun i op s hform => ⟨Instr.unassigned_of_form hform, encode_of_form hform, exec_of_form hform s⟩,
    fun i s r h => ?_, fun s op hop hrun hif hno hpc hread => ?_⟩
  · obtain ⟨op, hform, hr⟩ := unassigned_of_exec_fault h
    exact ⟨op, Instr.unassigned_of_form hform, hform, hr⟩
  · obtain ⟨i, hencode, hform⟩ := exists_unassigned hop
    have hu : s.codeUnclaimed 1 := fun k hk => by simpa [Nat.lt_one_iff.mp hk] using hpc
    have hd : decode (s.codeBytes 1) = .ok (i, []) := by
      rw [← decode_encode i, hencode, State.codeBytes_succ, hread]
      rfl
    simp [stepRunsDecoded s 1 i hrun hif hno hu hd, exec_of_form hform, runForm, unassigned]

/-- Settles O17: the two outcomes of a step. -/
theorem onlyUnassignedOpcodesFault : Obligations.OnlyUnassignedOpcodesFault := by
  intro s
  obtain ⟨t, ht, _⟩ | ⟨op, t, _, hform, hfault⟩ := step_cases s
  · exact .inl ⟨t, ht⟩
  · exact .inr ⟨op, _, Instr.unassigned_of_form hform, hfault⟩

/-- Settles O18: idle and interrupts cost 4 and 20, an instruction what its form costs. -/
theorem stepCosts : Obligations.StepCosts := fun _ _ h => step_cost h

end

/-! The 8-bit loads (40_load8.md rules R120 to R137): the next state of each shared operation in terms of the bus access
it makes, and with it the encoding and the meaning of every instruction of its form. -/

namespace Sys2Proof.Machine

/-! ### An instruction known by its form -/

/-- The bytes and the outcome of an instruction, from those of its form. -/
theorem encode_exec_of_form {i : Instr} {f : Form} (h : i.form = f) {s : State} {r : Result} (hr : runForm f s = r) :
    encode i = f.bytes ∧ exec i s = r :=
  ⟨encode_of_form h, (exec_of_form h s).trans hr⟩

/-! ### A register and the byte at `HL` -/

theorem ldRegReg_eq (dst src : Reg8) (s : State) :
    ldRegReg dst src s = .next { s with cpu := s.cpu.setReg dst (s.cpu.reg src), cost := 4 } := rfl

theorem ldRegImm_eq (r : Reg8) (d8 : Byte) (s : State) :
    ldRegImm r d8 s = .next { s with cpu := s.cpu.setReg r d8, cost := 8 } := rfl

/-- The address is the `HL` before the load, also where `H` or `L` is loaded (40_load8.md rule R123). -/
theorem ldRegMem_eq (dst : Reg8) (s : State) :
    ldRegMem dst s = .next
      { cpu := s.cpu.setReg dst (s.bus.read s.cpu.hl).1, bus := (s.bus.read s.cpu.hl).2, cost := 8 } := rfl

theorem ldMemReg_eq (src : Reg8) (s : State) :
    ldMemReg src s = .next { s with bus := s.bus.write s.cpu.hl (s.cpu.reg src), cost := 8 } := rfl

theorem ldMemImm_eq (d8 : Byte) (s : State) :
    ldMemImm d8 s = .next { s with bus := s.bus.write s.cpu.hl d8, cost := 12 } := rfl

/-! ### `A` and the byte at an address -/

theorem loadA_eq (addr : Word) (cost : Nat) (s : State) :
    loadA addr cost s = .next
      { cpu := { s.cpu with a := (s.bus.read addr).1 }, bus := (s.bus.read addr).2, cost := cost } := rfl

theorem storeA_eq (addr : Word) (cost : Nat) (s : State) :
    storeA addr cost s = .next { s with bus := s.bus.write addr s.cpu.a, cost := cost } := rfl

/-! ### `A` and the byte at the address in a pair -/

theorem ldAPtr_eq (p : Ptr) (s : State) :
    ldAPtr p s = .next
      { cpu := { s.cpu with a := (s.bus.read (s.cpu.ptrAddr p)).1 }.ptrAfter p
        bus := (s.bus.read (s.cpu.ptrAddr p)).2
        cost := 8 } := rfl

theorem ldPtrA_eq (p : Ptr) (s : State) :
    ldPtrA p s = .next
      { cpu := s.cpu.ptrAfter p, bus := s.bus.write (s.cpu.ptrAddr p) s.cpu.a, cost := 8 } := rfl

end Sys2Proof.Machine

section
open Sys2Proof Sys2Proof.Machine

/-- Settles O31: each form's operation makes its one transfer, the address being the `HL` of the state before it. -/
theorem loads8 : Obligations.Loads8 :=
  ⟨fun _ dst src s h => encode_exec_of_form h (ldRegReg_eq dst src s),
    fun _ r d8 s h => encode_exec_of_form h (ldRegImm_eq r d8 s),
    fun _ dst s h => encode_exec_of_form h (ldRegMem_eq dst s),
    fun _ r s h => encode_exec_of_form h (ldMemReg_eq r s),
    fun _ d8 s h => encode_exec_of_form h (ldMemImm_eq d8 s)⟩

/-- Settles O32: the pointer names the address, and what becomes of its pair does not depend on `A`. -/
theorem loadsAndStoresOfAThroughPairs : Obligations.LoadsAndStoresOfAThroughPairs := by
  refine ⟨fun _ p s h => encode_exec_of_form h ((ldAPtr_eq p s).trans ?_),
    fun _ p s h => encode_exec_of_form h ((ldPtrA_eq p s).trans ?_)⟩
  · cases p with
    | bc | de | hlInc | hlDec => rfl
  · cases p with
    | bc | de | hlInc | hlDec => rfl

/-- Settles O33: a load or a store of `A` at the absolute address or the high-page address. -/
theorem loadsAndStoresOfAAbsolute : Obligations.LoadsAndStoresOfAAbsolute :=
  ⟨fun _ a16 s h => encode_exec_of_form h (loadA_eq a16 16 s),
    fun _ a16 s h => encode_exec_of_form h (storeA_eq a16 16 s),
    fun _ a8 s h => encode_exec_of_form h (storeA_eq (highPage a8) 12 s),
    fun _ a8 s h => encode_exec_of_form h (loadA_eq (highPage a8) 12 s),
    fun _ s h => encode_exec_of_form h (storeA_eq (highPage s.cpu.c) 8 s),
    fun _ s h => encode_exec_of_form h (loadA_eq (highPage s.cpu.c) 8 s)⟩

end

/-! The 16-bit loads and the stack instructions (41_load16_stack.md rules R140 to R149): the next state of each shared
operation in terms of the bus accesses it makes, with the two bytes of a pair in place of its word. -/

namespace Sys2Proof.Machine

/-! ### The packed flag byte as a number -/

theorem packFlags_eq_ofNat (z n h c : Bool) :
    packFlags z n h c = BitVec.ofNat 8 (128 * z.toNat + 64 * n.toNat + 32 * h.toNat + 16 * c.toNat) := by
  rw [← packFlags_toNat, BitVec.ofNat_toNat, BitVec.setWidth_eq]

theorem Cpu.setF_eq_div (s : Cpu) (v : Byte) :
    s.setF v = { s with
      fZ := decide (v.toNat / 128 % 2 = 1)
      fN := decide (v.toNat / 64 % 2 = 1)
      fH := decide (v.toNat / 32 % 2 = 1)
      fC := decide (v.toNat / 16 % 2 = 1) } := by
  simp only [Cpu.setF, BitVec.getLsbD, Nat.testBit_eq_decide_div_mod_eq, Nat.reducePow]

/-! ### A pair by its two bytes -/

theorem Cpu.setBc_imm16 (s : Cpu) (lo hi : Byte) : s.setBc (imm16 lo hi) = { s with b := hi, c := lo } := by
  simp only [Cpu.setBc, imm16, highByte_append, lowByte_append]

theorem Cpu.setDe_imm16 (s : Cpu) (lo hi : Byte) : s.setDe (imm16 lo hi) = { s with d := hi, e := lo } := by
  simp only [Cpu.setDe, imm16, highByte_append, lowByte_append]

theorem Cpu.setHl_imm16 (s : Cpu) (lo hi : Byte) : s.setHl (imm16 lo hi) = { s with h := hi, l := lo } := by
  simp only [Cpu.setHl, imm16, highByte_append, lowByte_append]

theorem Cpu.setAf_imm16 (s : Cpu) (lo hi : Byte) : s.setAf (imm16 lo hi) = { s with a := hi }.setF lo := by
  simp only [Cpu.setAf, imm16, highByte_append, lowByte_append]

/-! ### The loads of a pair and of `SP` -/

theorem ldPairImm_eq (rr : Pair) (d16 : Word) (s : State) :
    ldPairImm rr d16 s = .next { s with cpu := s.cpu.setPair rr d16, cost := 12 } := rfl

theorem ldSpHl_eq (s : State) : ldSpHl s = .next { s with cpu := { s.cpu with sp := s.cpu.hl }, cost := 8 } := rfl

theorem ldAbsSp_eq (a16 : Word) (s : State) :
    ldAbsSp a16 s = .next { s with
      bus := (s.bus.write a16 (lowByte s.cpu.sp)).write (a16 + 1) (highByte s.cpu.sp), cost := 20 } := rfl

theorem ldHlSp_eq (r8 : Byte) (s : State) :
    ldHlSp r8 s = .next { s with
      cpu := (s.cpu.setHl (s.cpu.sp + sext16 r8)).setFlags false false (addSpHalf s.cpu.sp r8) (addSpCarry s.cpu.sp r8)
      cost := 12 } := rfl

/-- Adding a sign-extended byte adds its signed value, modulo 2^16 (00_scope.md rule R6). -/
theorem toInt_add_sext16 (w : Word) (n : Byte) : (w + sext16 n).toInt = (w.toInt + n.toInt).bmod 65536 := by
  rw [BitVec.toInt_add, sext16, BitVec.toInt_signExtend_of_le (by omega)]

/-! ### The stack (41_load16_stack.md rules R148, R149) -/

theorem push_eq (qq : StackPair) (s : State) :
    push qq s = .next
      { cpu := { s.cpu with sp := s.cpu.sp - 2 }
        bus := (s.bus.write (s.cpu.sp - 1) (highByte (s.cpu.stackPair qq))).write (s.cpu.sp - 2)
          (lowByte (s.cpu.stackPair qq))
        cost := 16 } := by
  have hsp : s.cpu.sp - 1 - 1 = s.cpu.sp - 2 := by bv_omega
  simp only [push, State.done, State.push16_cpu, State.push16_bus, hsp]

theorem pop_eq (qq : StackPair) (s : State) :
    let lo := s.bus.read s.cpu.sp
    let hi := lo.2.read (s.cpu.sp + 1)
    pop qq s = .next
      { cpu := { s.cpu with sp := s.cpu.sp + 2 }.setStackPair qq (imm16 lo.1 hi.1), bus := hi.2, cost := 12 } := by
  have hsp : s.cpu.sp + 1 + 1 = s.cpu.sp + 2 := by bv_omega
  simp only [pop, State.done, State.pop16_fst, State.pop16_cpu, State.pop16_bus, hsp]

end Sys2Proof.Machine

section
open Sys2Proof Sys2Proof.Machine

/-- Settles O34: the pair named by the instruction is written, `SP` is stored by its two bytes, and the word loaded into
`HL` has the signed sum as its value. -/
theorem loads16 : Obligations.Loads16 := by
  refine ⟨fun _ rr d16 s h => encode_exec_of_form h ((ldPairImm_eq rr d16 s).trans ?_),
    fun _ s h => encode_exec_of_form h (ldSpHl_eq s),
    fun _ a16 s h => encode_exec_of_form h (ldAbsSp_eq a16 s),
    fun _ r8 s h => ⟨s.cpu.sp + sext16 r8, toInt_add_sext16 s.cpu.sp r8, encode_exec_of_form h (ldHlSp_eq r8 s)⟩⟩
  cases rr with
  | bc | de | hl | sp => rfl

/-- Settles O35: the two bytes pushed are the halves of the pair, the low half of `AF` being the packed flags. -/
theorem pushes : Obligations.Pushes := by
  refine fun _ qq s h => encode_exec_of_form h ((push_eq qq s).trans ?_)
  cases qq with
  | bc => simp only [Cpu.stackPair, Cpu.bc, highByte_append, lowByte_append]
  | de => simp only [Cpu.stackPair, Cpu.de, highByte_append, lowByte_append]
  | hl => simp only [Cpu.stackPair, Cpu.hl, highByte_append, lowByte_append]
  | af => simp only [Cpu.stackPair, Cpu.af, Cpu.f, highByte_append, lowByte_append, packFlags_eq_ofNat]

/-- Settles O36: the two bytes popped become the halves of the pair, the low half of `AF` being unpacked into flags. -/
theorem pops : Obligations.Pops := by
  refine fun _ qq s h => encode_exec_of_form h ((pop_eq qq s).trans ?_)
  cases qq with
  | bc => simp only [Cpu.setStackPair, Cpu.setBc_imm16]
  | de => simp only [Cpu.setStackPair, Cpu.setDe_imm16]
  | hl => simp only [Cpu.setStackPair, Cpu.setHl_imm16]
  | af => simp only [Cpu.setStackPair, Cpu.setAf_imm16, Cpu.setF_eq_div]

end

/-! The 8-bit arithmetic and logic (42_alu8.md rules R155 to R188): the next state of each shared operation, and the
values and flags it computes as statements about integers. -/

namespace Sys2Proof.Machine

/-! ### The operand of an operation on `A` (42_alu8.md section 2) -/

/-- Reading the operand touches the bus alone. -/
theorem State.readSrc_eq (s : State) (src : AluSrc) :
    s.readSrc src = ((aluOperand s src).1, { s with bus := (aluOperand s src).2.1 }) := by
  cases src with
  | opnd o =>
    cases o with
    | reg r => rfl
    | memHl => rfl
  | imm d8 => rfl

theorem aluCost_eq (s : State) (src : AluSrc) : aluCost src = (aluOperand s src).2.2 := by
  cases src with
  | opnd o =>
    cases o with
    | reg r => rfl
    | memHl => rfl
  | imm d8 => rfl

theorem alu_eq (op : AluOp) (src : AluSrc) (s : State) :
    let v := aluOperand s src
    let x := aluCompute op s.cpu.a v.1 s.cpu.fC
    alu op src s = .next
      { cpu := { s.cpu with
          a := if aluWritesA op then x.r else s.cpu.a
          fZ := x.z, fN := aluSubtracts op, fH := x.h, fC := x.c }
        bus := v.2.1
        cost := v.2.2 } := by
  simp only [alu, State.readSrc_eq, aluCost_eq s]
  cases aluWritesA op with
  | true => rfl
  | false => rfl

/-- The operation is a field of the opcode, with the operand another field or the byte after it (30_encoding.md rule
R102). -/
theorem Form.bytes_alu (op : AluOp) (src : AluSrc) :
    (Form.alu op src).bytes = match src with
      | .opnd o => [0b10#2 ++ op.code ++ o.code]
      | .imm d8 => [0b11#2 ++ op.code ++ 0b110#3, d8] := by
  cases src with
  | opnd o => rfl
  | imm d8 => rfl

/-! ### The sum and the difference of bytes (42_alu8.md rules R183, R184) -/

theorem beq_zero_eq_toNat (v : Byte) : (v == 0) = decide (v.toNat = 0) := by
  rw [beq_eq_decide, decide_eq_decide, BitVec.toNat_eq]
  rfl

theorem ofNat_beq_zero (n : Nat) : (BitVec.ofNat 8 n == 0) = decide (n % 256 = 0) := by
  rw [beq_zero_eq_toNat, BitVec.toNat_ofNat]

theorem add8_eq (a v : Byte) (cin : Bool) :
    let sum := a.toNat + v.toNat + cin.toNat
    add8 a v cin =
      { r := BitVec.ofNat 8 sum
        z := decide (sum % 256 = 0)
        h := decide (a.toNat % 16 + v.toNat % 16 + cin.toNat > 0xF)
        c := decide (sum > 0xFF) } :=
  congrArg (fun z => { add8 a v cin with z := z }) (ofNat_beq_zero _)

/-- The integer difference narrowed to a byte is the natural number 256 above it narrowed, which is never truncated at
zero. -/
theorem ofInt_sub_eq_ofNat (a v : Byte) (cin : Bool) :
    BitVec.ofInt 8 ((a.toNat : Int) - v.toNat - cin.toNat) =
      BitVec.ofNat 8 (a.toNat + 256 - (v.toNat + cin.toNat)) := by
  apply BitVec.eq_of_toNat_eq
  rw [BitVec.toNat_ofInt, BitVec.toNat_ofNat]
  have hv := v.isLt
  have hcin := cin.toNat_le
  omega

theorem sub8_eq (a v : Byte) (cin : Bool) :
    let diff := a.toNat + 256 - (v.toNat + cin.toNat)
    sub8 a v cin =
      { r := BitVec.ofNat 8 diff
        z := decide (diff % 256 = 0)
        h := decide (a.toNat % 16 < v.toNat % 16 + cin.toNat)
        c := decide (a.toNat < v.toNat + cin.toNat) } := by
  simp only [sub8, ofInt_sub_eq_ofNat, ofNat_beq_zero]; rfl

/-- Without a borrow on entry the difference is zero exactly between equal bytes. -/
theorem sub8_z (a v : Byte) : (sub8 a v false).z = decide (a = v) := by
  rw [sub8_eq, decide_eq_decide, Bool.toNat_false]
  bv_omega

/-! ### One more and one less (42_alu8.md rules R179 to R182) -/

theorem add_one_beq_zero (v : Byte) : (v + 1 == 0) = decide (v.toNat = 255) := by
  rw [beq_eq_decide, decide_eq_decide]
  bv_omega

theorem sub_one_beq_zero (v : Byte) : (v - 1 == 0) = decide (v.toNat = 1) := by
  rw [beq_eq_decide, decide_eq_decide]
  bv_omega

theorem inc8_eq (o : Opnd8) (s : State) :
    let v := s.readOpnd o
    let t := v.2.writeOpnd o (v.1 + 1)
    inc8 o s = .next { t with
      cpu := { t.cpu with fZ := decide (v.1.toNat = 255), fN := false, fH := decide (v.1.toNat % 16 = 15) }
      cost := opndCost o 4 12 } := by
  simp only [inc8, add_one_beq_zero]; rfl

theorem dec8_eq (o : Opnd8) (s : State) :
    let v := s.readOpnd o
    let t := v.2.writeOpnd o (v.1 - 1)
    dec8 o s = .next { t with
      cpu := { t.cpu with fZ := decide (v.1.toNat = 1), fN := true, fH := decide (v.1.toNat % 16 = 0) }
      cost := opndCost o 4 12 } := by
  simp only [dec8, sub_one_beq_zero]; rfl

/-! ### The decimal correction (42_alu8.md rule R185) -/

/-- The low digit is corrected. -/
def daaLow (a : Byte) (n h : Bool) : Bool := h || (!n && decide (a.toNat % 16 > 9))

/-- The high digit is corrected. -/
def daaHigh (a : Byte) (n c : Bool) : Bool := c || (!n && decide (a.toNat > 0x99))

/-- The amount of the correction. -/
def daaAmount (low high : Bool) : Byte := (if low then 0x06 else 0x00) ||| (if high then 0x60 else 0x00)

/-- The two digits' amounts have no bit in common, so that joining them adds them. -/
theorem daaAmount_toNat (low high : Bool) :
    (daaAmount low high).toNat = (if low then 0x06 else 0) + (if high then 0x60 else 0) := by
  revert low high; decide

theorem daaResult_eq (a : Byte) (n h c : Bool) :
    let amount := daaAmount (daaLow a n h) (daaHigh a n c)
    daaResult a n h c = (if n then a - amount else a + amount, daaHigh a n c) := by
  cases n with
  | true => simp [daaResult, daaAfterSub, daaAmount, daaLow, daaHigh]
  | false => simp [daaResult, daaAfterAdd, daaAmount, daaLow, daaHigh, lowNibble]

/-- The corrected byte as a number. -/
theorem daaResult_fst_toNat (a : Byte) (n h c : Bool) :
    let adj := (if daaLow a n h then 0x06 else 0) + (if daaHigh a n c then 0x60 else 0)
    (daaResult a n h c).1.toNat = if n then (a.toNat + 256 - adj) % 256 else (a.toNat + adj) % 256 := by
  simp only [daaResult_eq, ← daaAmount_toNat]
  cases n with
  | true => simp only [if_true]; bv_omega
  | false => simp only [Bool.false_eq_true, if_false]; bv_omega

theorem daaLow_eq_true {a : Byte} {n h : Bool} :
    daaLow a n h = true ↔ h = true ∨ (n = false ∧ a.toNat % 16 > 9) := by
  simp [daaLow]

theorem daaHigh_eq_true {a : Byte} {n c : Bool} :
    daaHigh a n c = true ↔ c = true ∨ (n = false ∧ a.toNat > 0x99) := by
  simp [daaHigh]

theorem daa_eq (s : State) :
    let x := daaResult s.cpu.a s.cpu.fN s.cpu.fH s.cpu.fC
    daa s = .next { s with
      cpu := { s.cpu with
        a := BitVec.ofNat 8 x.1.toNat, fZ := decide (x.1.toNat = 0), fH := false, fC := x.2 }
      cost := 4 } := by
  simp only [daa, beq_zero_eq_toNat, BitVec.ofNat_toNat, BitVec.setWidth_eq]
  rfl

/-! ### The complement of `A` (42_alu8.md rule R186) -/

theorem not_eq_ofNat (a : Byte) : ~~~a = BitVec.ofNat 8 (255 - a.toNat) := by
  rw [← BitVec.setWidth_eq (~~~a), ← BitVec.ofNat_toNat, BitVec.toNat_not]

end Sys2Proof.Machine

section
open Sys2Proof Sys2Proof.Machine

/-- Settles O39: `ADD` is the sum of bytes without a carry on entry, `ADC` the one with `fC`. -/
theorem addAndAddWithCarry : Obligations.AddAndAddWithCarry := by
  intro i op src s h hop
  refine ⟨(encode_of_form h).trans (Form.bytes_alu _ src), (exec_of_form h s).trans ((alu_eq op src s).trans ?_)⟩
  obtain rfl | rfl := hop
  · simp only [aluCompute, add8_eq]; rfl
  · simp only [aluCompute, add8_eq]; rfl

/-- Settles O40: `SUB` is the difference of bytes without a borrow on entry, `SBC` the one with `fC`. -/
theorem subtractAndSubtractWithCarry : Obligations.SubtractAndSubtractWithCarry := by
  intro i op src s h hop
  refine ⟨(encode_of_form h).trans (Form.bytes_alu _ src), (exec_of_form h s).trans ((alu_eq op src s).trans ?_)⟩
  obtain rfl | rfl := hop
  · simp only [aluCompute, sub8_eq]; rfl
  · simp only [aluCompute, sub8_eq]; rfl

/-- Settles O41: each operation computes its own bitwise result and has its own constant in `fH`. -/
theorem andXorOr : Obligations.AndXorOr := by
  intro i op src s h hop
  have hencode := (encode_of_form h).trans (Form.bytes_alu op src)
  have hexec := (exec_of_form h s).trans (alu_eq op src s)
  obtain rfl | rfl | rfl := hop
  · exact ⟨s.cpu.a &&& (aluOperand s src).1, fun _ _ => BitVec.getLsbD_and, hencode, hexec⟩
  · exact ⟨s.cpu.a ^^^ (aluOperand s src).1, fun _ _ => BitVec.getLsbD_xor, hencode, hexec⟩
  · exact ⟨s.cpu.a ||| (aluOperand s src).1, fun _ _ => BitVec.getLsbD_or, hencode, hexec⟩

/-- Settles O42: `CP` is the difference without a borrow on entry, its result dropped. -/
theorem compare : Obligations.Compare := by
  intro i src s h
  refine ⟨(encode_of_form h).trans ?_, (exec_of_form h s).trans ((alu_eq .cp src s).trans ?_)⟩
  · cases src with
    | opnd o => rfl
    | imm d8 => rfl
  · simp only [aluCompute, sub8_z]; rfl

/-- Settles O43: the operand is read once and written once, its flags those of the value read. -/
theorem incrementAndDecrement8 : Obligations.IncrementAndDecrement8 :=
  ⟨fun _ r s h => encode_exec_of_form h (inc8_eq (.reg r) s),
    fun _ s h => encode_exec_of_form h (inc8_eq .memHl s),
    fun _ r s h => encode_exec_of_form h (dec8_eq (.reg r) s),
    fun _ s h => encode_exec_of_form h (dec8_eq .memHl s)⟩

/-- Settles O44: the corrected byte is known by its number, the carry by the condition on the high digit. -/
theorem decimalCorrection : Obligations.DecimalCorrection := by
  intro i s h a high low adj r
  have hr : (daaResult s.cpu.a s.cpu.fN s.cpu.fH s.cpu.fC).1.toNat = r := by
    rw [daaResult_fst_toNat]
    simp only [daaLow_eq_true, daaHigh_eq_true]
    rfl
  have hc : (daaResult s.cpu.a s.cpu.fN s.cpu.fH s.cpu.fC).2 = decide high := by
    rw [daaResult_eq, Bool.eq_iff_iff, decide_eq_true_iff]
    exact daaHigh_eq_true
  refine encode_exec_of_form h ((daa_eq s).trans ?_)
  simp only [hr, hc]

/-- Settles O45: the complement is taken from 255; the two carry instructions write their flags as they stand. -/
theorem complementAndCarryFlag : Obligations.ComplementAndCarryFlag := by
  refine ⟨fun _ s h => encode_exec_of_form h ?_, fun _ _ h => encode_exec_of_form h rfl,
    fun _ _ h => encode_exec_of_form h rfl⟩
  rw [← not_eq_ofNat]
  rfl

end

/-! The 16-bit arithmetic (43_alu16.md rules R190 to R193): the next state of each shared operation, with the sums as
natural numbers. -/

namespace Sys2Proof.Machine

/-! ### The two bytes of a word given by its number (00_scope.md rule R6) -/

theorem highByte_ofNat (n : Nat) : highByte (BitVec.ofNat 16 n) = BitVec.ofNat 8 (n / 256) := by
  apply BitVec.eq_of_toNat_eq
  simp only [highByte, BitVec.extractLsb'_toNat, BitVec.toNat_ofNat, Nat.shiftRight_eq_div_pow]
  omega

theorem lowByte_ofNat (n : Nat) : lowByte (BitVec.ofNat 16 n) = BitVec.ofNat 8 n := by
  apply BitVec.eq_of_toNat_eq
  simp only [lowByte, BitVec.extractLsb'_toNat, BitVec.toNat_ofNat, Nat.shiftRight_zero]
  omega

/-- One less modulo 2^16 is 0xFFFF more, which is never truncated at zero. -/
theorem sub_one_eq_ofNat (v : Word) : v - 1 = BitVec.ofNat 16 (v.toNat + 0xFFFF) := by
  rw [BitVec.sub_def, Nat.add_comm]
  rfl

/-! ### The sums (43_alu16.md rules R190 to R193) -/

theorem addHl_eq (rr : Pair) (s : State) :
    let v := s.cpu.pair rr
    let sum := s.cpu.hl.toNat + v.toNat
    addHl rr s = .next { s with
      cpu := { s.cpu with
        h := BitVec.ofNat 8 (sum / 256), l := BitVec.ofNat 8 sum
        fN := false, fH := addHlHalf s.bus.params.hc16Mask s.cpu.hl v, fC := addHlCarry s.cpu.hl v }
      cost := 8 } := by
  simp only [addHl, Cpu.setHl, BitVec.add_def, highByte_ofNat, lowByte_ofNat]
  rfl

theorem inc16_eq (rr : Pair) (s : State) :
    inc16 rr s = .next { s with
      cpu := s.cpu.setPair rr (BitVec.ofNat 16 ((s.cpu.pair rr).toNat + 1)), cost := 8 } := by
  simp only [inc16, BitVec.add_def]
  rfl

theorem dec16_eq (rr : Pair) (s : State) :
    dec16 rr s = .next { s with
      cpu := s.cpu.setPair rr (BitVec.ofNat 16 ((s.cpu.pair rr).toNat + 0xFFFF)), cost := 8 } := by
  simp only [dec16, sub_one_eq_ofNat]
  rfl

theorem addSp_eq (r8 : Byte) (s : State) :
    addSp r8 s = .next { s with
      cpu := { s.cpu with
        sp := s.cpu.sp + sext16 r8, fZ := false, fN := false
        fH := addSpHalf s.cpu.sp r8, fC := addSpCarry s.cpu.sp r8 }
      cost := 16 } := rfl

end Sys2Proof.Machine

section
open Sys2Proof Sys2Proof.Machine

/-- Settles O46: `HL` takes the two bytes of the sum, a pair one more or 0xFFFF more, and the word put into `SP` has the
signed sum as its value. -/
theorem arithmetic16 : Obligations.Arithmetic16 :=
  ⟨fun _ rr s h => encode_exec_of_form h (addHl_eq rr s),
    fun _ rr s h => encode_exec_of_form h (inc16_eq rr s),
    fun _ rr s h => encode_exec_of_form h (dec16_eq rr s),
    fun _ r8 s h => ⟨s.cpu.sp + sext16 r8, toInt_add_sext16 s.cpu.sp r8, encode_exec_of_form h (addSp_eq r8 s)⟩⟩

end

/-! Rotates, shifts and bit operations (44_rotate_shift_bit.md rules R200 to R225): the value and the carry of each as
numbers or bit by bit, and the next state of each shared operation for a register and `(HL)` alike. -/

namespace Sys2Proof.Machine

/-! ### The shifted byte as a number (44_rotate_shift_bit.md rules R200 to R219) -/

theorem toNat_append_eq_add {m n : Nat} (x : BitVec m) (y : BitVec n) :
    (x ++ y).toNat = x.toNat * 2 ^ n + y.toNat := by
  rw [BitVec.toNat_append, ← Nat.shiftLeft_add_eq_or_of_lt y.isLt, Nat.shiftLeft_eq]

/-- One place up, with the bit `b` coming in below. -/
theorem shiftUp_toNat (v : Byte) (b : Bool) :
    (v.extractLsb' 0 7 ++ BitVec.ofBool b : Byte).toNat = 2 * v.toNat % 256 + b.toNat := by
  rw [toNat_append_eq_add, extractLsb'_zero_toNat, BitVec.toNat_ofBool]
  omega

/-- One place down, with the bit `b` coming in above. -/
theorem shiftDown_toNat (v : Byte) (b : Bool) :
    (BitVec.ofBool b ++ v.extractLsb' 1 7 : Byte).toNat = v.toNat / 2 + 128 * b.toNat := by
  rw [toNat_append_eq_add, BitVec.extractLsb'_toNat, BitVec.toNat_ofBool, Nat.shiftRight_eq_div_pow]
  have hv := v.isLt
  omega

theorem swapNibbles_toNat (v : Byte) :
    (v.extractLsb' 0 4 ++ v.extractLsb' 4 4 : Byte).toNat = v.toNat % 16 * 16 + v.toNat / 16 := by
  rw [toNat_append_eq_add, extractLsb'_zero_toNat, BitVec.extractLsb'_toNat, Nat.shiftRight_eq_div_pow]
  have hv := v.isLt
  omega

theorem getLsbD_zero_eq_decide (v : Byte) : v.getLsbD 0 = decide (v.toNat % 2 = 1) := by
  rw [BitVec.getLsbD, Nat.testBit_zero]

theorem getLsbD_seven_eq_decide (v : Byte) : v.getLsbD 7 = decide (v.toNat / 128 = 1) := by
  rw [BitVec.getLsbD, Nat.testBit_eq_decide_div_mod_eq, decide_eq_decide]
  have hv := v.isLt
  omega

theorem getLsbD_zero_toNat (v : Byte) : (v.getLsbD 0).toNat = v.toNat % 2 := by
  rw [BitVec.getLsbD, Nat.toNat_testBit, pow_zero, Nat.div_one]

theorem getLsbD_seven_toNat (v : Byte) : (v.getLsbD 7).toNat = v.toNat / 128 := by
  rw [BitVec.getLsbD, Nat.toNat_testBit]
  have hv := v.isLt
  omega

theorem shiftCompute_fst_toNat (op : ShiftOp) (v : Byte) (c : Bool) :
    (shiftCompute op v c).1.toNat = shiftNumber op v.toNat c := by
  cases op with
  | rlc => exact (shiftUp_toNat v _).trans (by rw [getLsbD_seven_toNat]; rfl)
  | rrc => exact (shiftDown_toNat v _).trans (by rw [getLsbD_zero_toNat]; rfl)
  | rl => exact shiftUp_toNat v c
  | rr => exact shiftDown_toNat v c
  | sla => exact shiftUp_toNat v false
  | sra => exact (shiftDown_toNat v _).trans (by rw [getLsbD_seven_toNat]; rfl)
  | swap => exact swapNibbles_toNat v
  | srl => exact shiftDown_toNat v false

theorem shiftCompute_snd (op : ShiftOp) (v : Byte) (c : Bool) :
    (shiftCompute op v c).2 = shiftCarryOut op v.toNat := by
  cases op with
  | rlc | rl | sla => exact getLsbD_seven_eq_decide v
  | rrc | rr | sra | srl => exact getLsbD_zero_eq_decide v
  | swap => rfl

/-- The number of a shifted byte is a byte's. -/
theorem shiftNumber_lt (op : ShiftOp) (v : Byte) (c : Bool) : shiftNumber op v.toNat c < 256 :=
  shiftCompute_fst_toNat op v c ▸ (shiftCompute op v c).1.isLt

theorem shiftCompute_eq (op : ShiftOp) (v : Byte) (c : Bool) :
    shiftCompute op v c = (BitVec.ofNat 8 (shiftNumber op v.toNat c), shiftCarryOut op v.toNat) := by
  refine Prod.ext ?_ (shiftCompute_snd op v c)
  rw [← shiftCompute_fst_toNat, BitVec.ofNat_toNat, BitVec.setWidth_eq]

theorem rotA_eq (op : RotOp) (s : State) :
    rotA op s = .next { s with
      cpu := { s.cpu with
        a := BitVec.ofNat 8 (shiftNumber (rotShift op) s.cpu.a.toNat s.cpu.fC)
        fZ := false, fN := false, fH := false
        fC := shiftCarryOut (rotShift op) s.cpu.a.toNat }
      cost := 4 } := by
  simp only [rotA, shiftCompute_eq]
  rfl

theorem shift_eq (op : ShiftOp) (o : Opnd8) (s : State) :
    let v := s.readOpnd o
    let res := shiftNumber op v.1.toNat v.2.cpu.fC
    let t := v.2.writeOpnd o (BitVec.ofNat 8 res)
    shift op o s = .next { t with
      cpu := { t.cpu with fZ := decide (res = 0), fN := false, fH := false, fC := shiftCarryOut op v.1.toNat }
      cost := opndCost o 8 16 } := by
  simp only [shift, shiftCompute_eq, ofNat_beq_zero, Nat.mod_eq_of_lt (shiftNumber_lt ..)]
  rfl

/-! ### One bit of a byte (44_rotate_shift_bit.md rules R220 to R225) -/

theorem not_getLsbD_eq_decide (v : Byte) (k : Nat) : (!v.getLsbD k) = decide (v.toNat / 2 ^ k % 2 = 0) := by
  rw [BitVec.getLsbD, Nat.testBit_eq_decide_div_mod_eq, ← decide_not, decide_eq_decide]
  exact Nat.mod_two_ne_one

theorem bitMask_eq_twoPow (b : BitVec 3) : bitMask b = BitVec.twoPow 8 b.toNat :=
  (BitVec.twoPow_eq 8 b.toNat).symm

/-- The mask's only bit is bit `b`. -/
theorem getLsbD_bitMask (b : BitVec 3) (k : Nat) : (bitMask b).getLsbD k = decide (k = b.toNat) := by
  have hb : b.toNat < 8 := b.isLt
  rw [bitMask_eq_twoPow, BitVec.getLsbD_twoPow, decide_eq_true hb, Bool.true_and, decide_eq_decide]
  exact eq_comm

theorem hasBit_and_not_bitMask (v : Byte) (b : BitVec 3) : HasBit v (v &&& ~~~bitMask b) b false := by
  intro k hk
  rw [BitVec.getLsbD_and, BitVec.getLsbD_not, getLsbD_bitMask]
  by_cases hkb : k = b.toNat
  · simp [hkb]
  · simp [hkb, hk]

theorem hasBit_or_bitMask (v : Byte) (b : BitVec 3) : HasBit v (v ||| bitMask b) b true := by
  intro k _
  rw [BitVec.getLsbD_or, getLsbD_bitMask]
  by_cases hkb : k = b.toNat
  · simp [hkb]
  · simp [hkb]

theorem bitTest_eq (b : BitVec 3) (o : Opnd8) (s : State) :
    let v := s.readOpnd o
    bitTest b o s = .next { v.2 with
      cpu := { v.2.cpu with fZ := decide (v.1.toNat / 2 ^ b.toNat % 2 = 0), fN := false, fH := true }
      cost := opndCost o 8 12 } := by
  simp only [bitTest, not_getLsbD_eq_decide]
  rfl

theorem resBit_eq (b : BitVec 3) (o : Opnd8) (s : State) :
    let v := s.readOpnd o
    resBit b o s = .next { v.2.writeOpnd o (v.1 &&& ~~~bitMask b) with cost := opndCost o 8 16 } := rfl

theorem setBit_eq (b : BitVec 3) (o : Opnd8) (s : State) :
    let v := s.readOpnd o
    setBit b o s = .next { v.2.writeOpnd o (v.1 ||| bitMask b) with cost := opndCost o 8 16 } := rfl

end Sys2Proof.Machine

section
open Sys2Proof Sys2Proof.Machine

/-- Settles O47: each rotate of `A` is the secondary rotate of the same name, with `fZ` cleared. -/
theorem rotatesOfA : Obligations.RotatesOfA := by
  intro i op s h
  cases op with
  | rlc | rrc | rl | rr => exact encode_exec_of_form h (rotA_eq _ s)

/-- Settles O48: the shifted byte is known by its number, which is below 256. -/
theorem shiftsOfARegister : Obligations.ShiftsOfARegister := by
  intro i op r s h v res
  obtain ⟨hencode, hexec⟩ := encode_exec_of_form h (shift_eq op (.reg r) s)
  exact ⟨hencode, shiftNumber_lt op (s.cpu.reg r) s.cpu.fC, hexec⟩

/-- Settles O49: the byte read at `HL` is shifted as a register is, and the result written where it was read. -/
theorem shiftsOfMemory : Obligations.ShiftsOfMemory := by
  intro i op s h v res
  obtain ⟨hencode, hexec⟩ := encode_exec_of_form h (shift_eq op .memHl s)
  exact ⟨hencode, shiftNumber_lt op v.1 s.cpu.fC, hexec⟩

/-- Settles O50: the tested bit is a digit of the number, and the mask's only bit is the one `RES` and `SET` make. -/
theorem bitTestsResetsAndSets : Obligations.BitTestsResetsAndSets :=
  ⟨fun _ b r s h => encode_exec_of_form h (bitTest_eq b (.reg r) s),
    fun _ b s h => encode_exec_of_form h (bitTest_eq b .memHl s),
    fun _ b _ s h => ⟨_, hasBit_and_not_bitMask _ b, encode_exec_of_form h (resBit_eq b _ s)⟩,
    fun _ b s h => ⟨_, hasBit_and_not_bitMask _ b, encode_exec_of_form h (resBit_eq b .memHl s)⟩,
    fun _ b _ s h => ⟨_, hasBit_or_bitMask _ b, encode_exec_of_form h (setBit_eq b _ s)⟩,
    fun _ b s h => ⟨_, hasBit_or_bitMask _ b, encode_exec_of_form h (setBit_eq b .memHl s)⟩⟩

end

/-! The control transfers (45_control.md rules R230 to R241): the condition, and the next state of each shared operation
with the stack accesses of calls and returns as bus accesses. -/

namespace Sys2Proof.Machine

/-! ### The condition (45_control.md rule R240) -/

theorem Cpu.cond_eq_true_iff_holds (s : Cpu) (cc : Cond) : s.cond cc = true ↔ cc.Holds s := by
  cases cc with
  | nz | nc => exact iff_of_eq (Bool.not_eq_true' _)
  | z | c => exact Iff.rfl

/-- The bytes and the two outcomes of a conditional instruction, from those of its form: where the condition is false
the instruction only costs. -/
theorem encode_exec_of_cond {i : Instr} {f : Form} {cc : Cond} (h : i.form = f) {s : State} {transfer taken : Result}
    {cost : Nat} (hr : runForm f s = if s.cpu.cond cc then transfer else s.done s.cpu cost)
    (htaken : transfer = taken) :
    encode i = f.bytes ∧ (cc.Holds s.cpu → exec i s = taken) ∧
      (¬cc.Holds s.cpu → exec i s = .next { s with cost := cost }) := by
  have hexec := (exec_of_form h s).trans hr
  rw [← Cpu.cond_eq_true_iff_holds]
  exact ⟨encode_of_form h,
    fun hc => hexec.trans ((if_pos hc).trans htaken),
    fun hc => hexec.trans (if_neg hc)⟩

/-! ### Jumps (45_control.md rules R230 to R234) -/

theorem State.jump_eq (s : State) (target : Word) (cost : Nat) :
    s.jump target cost = .next { s with cpu := { s.cpu with pc := target }, cost := cost } := rfl

/-! ### The word on the stack (41_load16_stack.md rules R148, R149) -/

theorem State.push16_eq (s : State) (v : Word) :
    s.push16 v = { s with
      cpu := { s.cpu with sp := s.cpu.sp - 2 }
      bus := (s.bus.write (s.cpu.sp - 1) (highByte v)).write (s.cpu.sp - 2) (lowByte v) } := by
  have hsp : s.cpu.sp - 1 - 1 = s.cpu.sp - 2 := by bv_omega
  rw [← hsp]
  rfl

theorem State.pop16_eq (s : State) :
    let lo := s.bus.read s.cpu.sp
    let hi := lo.2.read (s.cpu.sp + 1)
    s.pop16 = (hi.1 ++ lo.1, { s with cpu := { s.cpu with sp := s.cpu.sp + 2 }, bus := hi.2 }) := by
  have hsp : s.cpu.sp + 1 + 1 = s.cpu.sp + 2 := by bv_omega
  rw [← hsp]
  rfl

/-! ### Calls and returns (45_control.md rules R235 to R239, R241) -/

theorem callTo_eq (target : Word) (cost : Nat) (s : State) :
    callTo target cost s = .next
      { cpu := { s.cpu with sp := s.cpu.sp - 2, pc := target }
        bus := (s.bus.write (s.cpu.sp - 1) (highByte s.cpu.pc)).write (s.cpu.sp - 2) (lowByte s.cpu.pc)
        cost := cost } := by
  rw [callTo, State.push16_eq]
  rfl

theorem returnTo_eq (cost : Nat) (s : State) :
    let lo := s.bus.read s.cpu.sp
    let hi := lo.2.read (s.cpu.sp + 1)
    returnTo cost s = .next
      { cpu := { s.cpu with sp := s.cpu.sp + 2, pc := hi.1 ++ lo.1 }, bus := hi.2, cost := cost } := by
  rw [returnTo, State.pop16_eq]
  rfl

/-- `RETI` is `RET` with the enable written too. -/
theorem reti_eq (s : State) :
    let lo := s.bus.read s.cpu.sp
    let hi := lo.2.read (s.cpu.sp + 1)
    reti s = .next
      { cpu := { s.cpu with sp := s.cpu.sp + 2, pc := hi.1 ++ lo.1, ime := true, eiDelay := false }
        bus := hi.2
        cost := 16 } := by
  rw [reti, State.returnFromInterrupt, State.pop16_eq]
  rfl

end Sys2Proof.Machine

section
open Sys2Proof Sys2Proof.Machine

/-- Settles O51: each jump writes the program counter alone, a relative one with the signed sum as its value; a jump not
taken writes nothing. -/
theorem jumps : Obligations.Jumps :=
  ⟨fun _ a16 s h => encode_exec_of_form h (s.jump_eq a16 16),
    fun _ _ a16 s h => encode_exec_of_cond h rfl (s.jump_eq a16 16),
    fun _ r8 s h => ⟨s.cpu.pc + sext16 r8, toInt_add_sext16 s.cpu.pc r8, encode_exec_of_form h (s.jump_eq _ 12)⟩,
    fun _ _ r8 s h => ⟨s.cpu.pc + sext16 r8, toInt_add_sext16 s.cpu.pc r8,
      encode_exec_of_cond h rfl (s.jump_eq _ 12)⟩,
    fun _ s h => encode_exec_of_form h (s.jump_eq s.cpu.hl 4)⟩

/-- Settles O52: `CALL` and `RST` are one operation with their own targets and costs; a call not taken writes
nothing. -/
theorem callsAndRestarts : Obligations.CallsAndRestarts :=
  ⟨fun _ a16 s h => encode_exec_of_form h (callTo_eq a16 24 s),
    fun _ _ a16 s h => encode_exec_of_cond h rfl (callTo_eq a16 24 s),
    fun _ t s h => encode_exec_of_form h (callTo_eq (BitVec.ofNat 16 (8 * t.toNat)) 16 s)⟩

/-- Settles O53: `RET` and `RET cc` are one operation with their own costs, `RETI` also writes the enable; a return not
taken reads nothing. -/
theorem returns : Obligations.Returns :=
  ⟨fun _ s h => encode_exec_of_form h (returnTo_eq 16 s),
    fun _ _ s h => encode_exec_of_cond h rfl (returnTo_eq 20 s),
    fun _ s h => encode_exec_of_form h (reti_eq s)⟩

end

/-! NOP, HALT, STOP, DI and EI (46_misc.md rules R250 to R254): the next state of each. -/

namespace Sys2Proof.Machine

theorem nop_eq (s : State) : nop s = .next { s with cost := 4 } := rfl

theorem halt_eq (s : State) : halt s = .next { s with cpu := { s.cpu with run := .halted }, cost := 4 } := rfl

/-- `STOP` ignores its second byte (the spec's decision D15). -/
theorem stop_eq (d8 : Byte) (s : State) : stop d8 s = .next { s with cost := 4 } := rfl

theorem di_eq (s : State) :
    di s = .next { s with cpu := { s.cpu with ime := false, eiDelay := false }, cost := 4 } := rfl

theorem ei_eq_of_disabled {s : State} (h : s.cpu.ime = false) :
    ei s = .next { s with cpu := { s.cpu with eiDelay := true }, cost := 4 } := by
  rw [ei, h]
  rfl

theorem ei_eq_of_enabled {s : State} (h : s.cpu.ime = true) : ei s = .next { s with cost := 4 } := by
  rw [ei, h]
  rfl

end Sys2Proof.Machine

section
open Sys2Proof Sys2Proof.Machine

/-- Settles O54: each of the five writes at most its own fields of the processor and the cost; `EI` splits on the enable
it finds. -/
theorem nopHaltStopDisableEnable : Obligations.NopHaltStopDisableEnable :=
  ⟨fun _ s h => encode_exec_of_form h (nop_eq s),
    fun _ s h => encode_exec_of_form h (halt_eq s),
    fun _ d8 s h => encode_exec_of_form h (stop_eq d8 s),
    fun _ s h => encode_exec_of_form h (di_eq s),
    fun _ s h => ⟨encode_of_form h,
      fun hime => (exec_of_form h s).trans (ei_eq_of_disabled hime),
      fun hime => (exec_of_form h s).trans (ei_eq_of_enabled hime)⟩⟩

end

/-! The interrupt test at the head of a step (60_exceptions.md rules R273 to R277): which source is selected, the halted
step, the next state when an interrupt is taken, and the `IF` byte afterwards. -/

namespace Sys2Proof.Machine

/-! ### The lowest pending source (60_exceptions.md rules R275, R277) -/

theorem exists_lowest_bit {v : Byte} (h : v ≠ 0) :
    ∃ n, v.getLsbD n = true ∧ ∀ m, m < n → v.getLsbD m = false := by
  have hbit : ∃ n, v.getLsbD n = true := by
    by_contra! hnone
    refine h (BitVec.eq_of_getLsbD_eq fun k _ => ?_)
    exact (Bool.eq_false_of_not_eq_true (hnone k)).trans BitVec.getLsbD_zero.symm
  exact ⟨Nat.find hbit, Nat.find_spec hbit, fun m hm => Bool.eq_false_of_not_eq_true (Nat.find_min hbit hm)⟩

/-- Bits 7 to 5 take no part. -/
theorem lt_five_of_masked_bit {v : Byte} {n : Nat} (h : (v &&& 0x1F).getLsbD n = true) : n < 5 := by
  have hmask : ∀ k, k < 8 → (0x1F : Byte).getLsbD k = true → k < 5 := by decide
  have hn : n < 8 := BitVec.lt_of_getLsbD h
  rw [BitVec.getLsbD_and, Bool.and_eq_true] at h
  exact hmask n hn h.2

theorem lowestSource_eq {pend : Byte} {n : Nat} (hn : n < 5) (hset : pend.getLsbD n = true)
    (hlower : ∀ m, m < n → pend.getLsbD m = false) : lowestSource pend = n := by
  interval_cases n <;>
    simp only [lowestSource, hset, hlower, Nat.reduceLT, Nat.lt_add_one, Bool.false_eq_true, if_true, if_false]

/-! ### The halted step (60_exceptions.md rule R273) -/

theorem step_of_idle {s : State} (hrun : s.cpu.run = .halted) (hp : s.interruptTest.1 = 0) :
    step s = .next { s.interruptTest.2.2 with cost := 4 } := by
  have hbegin : s.beginStep = .inl { s.interruptTest.2.2 with cost := 4 } := if_pos ⟨hrun, hp⟩
  rw [step, hbegin]

/-- The machine running, as a pending source leaves it. -/
def State.wake (s : State) : State := { s with cpu := { s.cpu with run := .running } }

/-- The interrupt test does not look at the run state. -/
theorem State.interruptTest_wake (s : State) :
    s.wake.interruptTest = (s.interruptTest.1, s.interruptTest.2.1, s.interruptTest.2.2.wake) := rfl

/-- A step that does not idle wakes the machine, and takes an interrupt or goes on to an instruction. -/
theorem State.beginStep_of_not_idle {s : State} (h : ¬(s.cpu.run = .halted ∧ s.interruptTest.1 = 0)) :
    s.beginStep =
      if s.cpu.ime ∧ s.interruptTest.1 ≠ 0 then
        .inl (s.interruptTest.2.2.wake.takeInterrupt (lowestSource s.interruptTest.1) s.interruptTest.2.1)
      else .inr s.interruptTest.2.2.wake := if_neg h

/-- With a source pending the run state does not matter. -/
theorem step_wake {s : State} (hp : s.interruptTest.1 ≠ 0) : step s = step s.wake := by
  have hbegin : s.beginStep = s.wake.beginStep := by
    rw [State.beginStep_of_not_idle fun h => hp h.2, State.beginStep_of_not_idle (s := s.wake) fun h => hp h.2,
      State.interruptTest_wake]
    rfl
  rw [step, step, hbegin]

/-! ### Taking the interrupt (60_exceptions.md rule R276) -/

theorem step_of_interrupt {s : State} {n : Nat} (hime : s.cpu.ime = true) (hn : n < 5)
    (hset : s.interruptTest.1.getLsbD n = true) (hlower : ∀ m, m < n → s.interruptTest.1.getLsbD m = false) :
    step s = .next (s.interruptTest.2.2.wake.takeInterrupt n s.interruptTest.2.1) := by
  have hp : s.interruptTest.1 ≠ 0 := by
    intro hzero
    simp [hzero] at hset
  rw [step, State.beginStep_of_not_idle fun h => hp h.2, if_pos ⟨hime, hp⟩, lowestSource_eq hn hset hlower]

theorem State.takeInterrupt_eq (s : State) (n : Nat) (f : Byte) :
    s.takeInterrupt n f =
      { cpu := { s.cpu with ime := false, sp := s.cpu.sp - 2, pc := interruptVector n }
        bus := ((s.bus.write addrInterruptFlag (acknowledge f n)).write (s.cpu.sp - 1) (highByte s.cpu.pc)).write
          (s.cpu.sp - 2) (lowByte s.cpu.pc)
        cost := 20 } := by
  rw [State.takeInterrupt, State.push16_eq]
  rfl

/-! ### `IF` after the acknowledge (60_exceptions.md rules R276, R277) -/

theorem route_addrInterruptFlag : route addrInterruptFlag = .io 0x0F := by decide

/-- No write to another address reaches `IF`. -/
theorem Bus.not_aliases_interruptFlag (b : Bus) {a : Word} (ha : a ≠ addrInterruptFlag) :
    b.aliases a addrInterruptFlag = false := by
  have hne : (addrInterruptFlag == a) = false := beq_false_of_ne ha.symm
  have hboot : ¬addrInterruptFlag.toNat ≤ 0xFF := by decide
  rw [Bus.aliases, route_addrInterruptFlag]
  cases route a <;> simp only [hne, hboot, decide_false, Bool.and_false, Bool.or_false]
  case rom => rfl

/-- The pushes leave `IF` as acknowledged where they do not go to it and no handler takes them. -/
theorem State.takeInterrupt_rawRead_interruptFlag {s : State} (hif : s.bus.forwardsTo addrInterruptFlag = none)
    (hhi : s.bus.forwardsTo (s.cpu.sp - 1) = none) (hlo : s.bus.forwardsTo (s.cpu.sp - 2) = none)
    (hhi' : s.cpu.sp - 1 ≠ addrInterruptFlag) (hlo' : s.cpu.sp - 2 ≠ addrInterruptFlag) (n : Nat) (f : Byte) :
    (s.takeInterrupt n f).bus.rawRead addrInterruptFlag = acknowledge f n := by
  have hretains : s.bus.retains addrInterruptFlag = true := by rw [Bus.retains, route_addrInterruptFlag]
  have hclaims : ∀ a ∈ [s.cpu.sp - 1, s.cpu.sp - 2], s.bus.forwardsTo a = none :=
    List.forall_mem_cons.mpr ⟨hhi, List.forall_mem_singleton.mpr hlo⟩
  have hstored := Bus.Stored.write_write (b := s.bus.rawWrite addrInterruptFlag (acknowledge f n))
    (by simpa only [Bus.rawWrite_forwardsTo] using hclaims) (highByte s.cpu.pc) (lowByte s.cpu.pc)
  have hreach : ∀ a ∈ [s.cpu.sp - 1, s.cpu.sp - 2],
      (s.bus.rawWrite addrInterruptFlag (acknowledge f n)).aliases a addrInterruptFlag = false :=
    List.forall_mem_cons.mpr ⟨Bus.not_aliases_interruptFlag _ hhi',
      List.forall_mem_singleton.mpr (Bus.not_aliases_interruptFlag _ hlo')⟩
  rw [State.takeInterrupt_eq, Bus.write_of_unclaimed hif, hstored.rawRead hreach, Bus.rawRead_rawWrite_self hretains]

/-- The acknowledge clears bit `n` alone. -/
theorem acknowledge_getLsbD {n : Nat} (hn : n < 5) (f : Byte) {k : Nat} (hk : k < 8) :
    (acknowledge f n).getLsbD k = if k = n then false else f.getLsbD k := by
  have hsource : (BitVec.ofNat 3 n).toNat = n := by
    rw [BitVec.toNat_ofNat]
    exact Nat.mod_eq_of_lt (by omega)
  have hmask : acknowledge f n = f &&& ~~~bitMask (BitVec.ofNat 3 n) := by rw [acknowledge, bitMask, hsource]
  rw [hmask, hasBit_and_not_bitMask f _ k hk, hsource]

end Sys2Proof.Machine

section
open Sys2Proof Sys2Proof.Machine

/-- Settles O9: with nothing pending the halted step ends at once, otherwise it goes on as a running machine's does. -/
theorem haltedStep : Obligations.HaltedStep :=
  fun _ hrun => ⟨fun hp => step_of_idle hrun hp, fun hp => step_wake hp⟩

/-- Settles O10: the selected source is the lowest set bit, and taking it is the acknowledge, the push and the
vector. -/
theorem dispatchEntry : Obligations.DispatchEntry := by
  intro s n hime e f hn hset hlower
  rw [step_of_interrupt hime hn hset hlower, State.takeInterrupt_eq]
  rfl

/-- Settles O11: the selected source is acknowledged in `IF`, and the pushes do not reach `IF`. -/
theorem lowestSourceFirst : Obligations.LowestSourceFirst := by
  intro s hime hp hif hhi hlo hhi' hlo'
  have htest := State.interruptTest_of_unclaimed hif
  obtain ⟨n, hset, hlower⟩ := exists_lowest_bit hp
  have hn : n < 5 := lt_five_of_masked_bit hset
  refine ⟨n, _, hn, hset, hlower, step_of_interrupt hime hn (by rwa [htest]) (by rwa [htest]), rfl, fun k hk => ?_⟩
  rw [htest, State.takeInterrupt_rawRead_interruptFlag (s := s.wake) hif hhi hlo hhi' hlo', acknowledge_getLsbD hn _ hk]

end
